-- ==== Sys2Proof/Word.lean ====
section
/-!
DEFINITION. The word types of the block: nibbles, bytes, command words, fault codes (00_scope.md R5, R6).
-/

namespace Sys2Proof

/-- A 4-bit value: an output nibble, the adaptation state, a table index (R5 "Nibble width", R10). -/
abbrev Nibble := BitVec 4

/-- An 8-bit value: an output byte, the staging register, the packed-byte counter, a marker (R5, R12, R13, R15). -/
abbrev Byte := BitVec 8

/-- One 18-bit command word, `op` in bits 17:16 and `data` in bits 15:0 (30_encoding.md R45). -/
abbrev CmdWord := BitVec 18

/-- The content of the 3-bit fault register (10_state.md R18). -/
abbrev FaultCode := BitVec 3

/-- The unsigned reading of a nibble as an exact integer (`zext_4`, R6). -/
def Nibble.int (n : Nibble) : Int := (n.toNat : Int)

end Sys2Proof
end

