-- ==== Sys2Proof/Config.lean ====
section
/-!
DEFINITION. The configuration of the block (00_scope.md R4, R5): the two constant tables and the sink's answers.
No value is chosen here: the tables are data of the state, and what the spec leaves open is an opaque constant.
-/

namespace Sys2Proof

/-- The two constant tables, as the STATE ROM and the STEP ROM hold them (00_scope.md R4, 20_memory.md R30, R31).
Entries are unbounded integers (92_eei_decisions.md D7). -/
structure Tables where
  /-- `STATE_TABLE[c]`, `c` in 0..15. -/
  stateTable : Vector Int 16
  /-- `STEP_TABLE[r][c]`, row `r` first, column `c` second, both in 0..15. -/
  stepTable  : Vector (Vector Int 16) 16
deriving DecidableEq, Repr, Inhabited

/-- What the sink says to one offered byte (20_memory.md R32). -/
inductive SinkAnswer where
  | ok
  | fail
deriving DecidableEq, Repr, Inhabited

/-- FREE VALUE. The tables built into this machine. The spec prints no entry (91_not_in_source.md N1), so nothing is
known of them (DESIGN CHOICE, log entry 4; safe). Only `State.reset` names it: every rule reads the state's tables. -/
opaque Config.installedTables : Tables

/-- FREE VALUE. The sink's answer to the `n`-th byte ever offered to it, where no input of the run has fixed it
(92_eei_decisions.md D14 "under no law"; DESIGN CHOICE, log entry 3; safe). -/
opaque Config.sinkAnswer : Nat → SinkAnswer

end Sys2Proof
end

