-- ==== Sys2Proof/Machine/State.lean ====
section
/-!
DEFINITION. The state of the block (10_state.md), the reasons a step could stop, and the state after power-on reset.
-/

namespace Sys2Proof.Machine

/-- What the outside can hand the block between two commands (30_encoding.md R61). -/
inductive Input where
  /-- One command word offered on the input channel (R45). -/
  | command (w : CmdWord)
  /-- The signal `rst`: power-on reset (70_reset_and_hazards.md R130, R133). -/
  | rst
deriving DecidableEq, Repr

/-- The registers under the spec's own names, the output history, and the environment of a run as plain data. -/
structure State where
  /-- Adaptation state, 4 bits unsigned (R10). -/
  AS  : Nibble
  /-- Staging register: the held first nibble in bits 3:0 (R12). -/
  STG : Byte
  /-- Packed data bytes emitted since the last marker, modulo 256 (R13). -/
  CNT : Byte
  /-- A first nibble waits in `STG` for its pair (R14). -/
  ODD : Bool
  /-- The resolved frequency marker, or 0x00 = NONE (R15). -/
  MRK : Byte
  /-- A stream is open (R19). -/
  ACT : Bool
  /-- Fault code, 0 = no fault; sticky (R18). -/
  FLT : FaultCode
  /-- The bytes the sink has accepted, oldest first (R22). -/
  OUT : List Byte
  /-- The command words and resets not taken yet, the next one first (00_scope.md R8). -/
  inputs : List Input
  /-- The answers the sink will give to the next bytes offered, as far as the run fixes them (20_memory.md R32). -/
  answers : List SinkAnswer
  /-- How many bytes have been offered to the sink; the model's own counter, which feeds `Config.sinkAnswer`. -/
  offered : Nat
  /-- `STATE_TABLE` and `STEP_TABLE`: configuration that no operation writes (R4, R23). -/
  tables : Tables
deriving DecidableEq, Repr

/-- Why a step stops with a fault: never. The spec's four faults (60_exceptions.md R110) are values of the register `FLT`
after which the block goes on, ignoring commands (R119); each is a next state here (log entry 6; safe). -/
inductive Fault
deriving DecidableEq, Repr

/-- Why a step is refused. -/
inductive Refusal where
  /-- A command without a meaning: raised by no arm of `exec`, every command has its meaning (log entry 6; safe). -/
  | notModelled (mnemonic : String)
deriving DecidableEq, Repr

/-- The outcome of one command or step. -/
abbrev Result := Host.Outcome State Fault Refusal

/-- After power-on reset (70_reset_and_hazards.md R130): every register 0, `MRK` = NONE; nothing emitted, nothing offered
yet, the tables whatever this machine has (log entries 1, 3 and 4 for the fields that are no registers). -/
def State.reset : State where
  AS      := 0
  STG     := 0x00
  CNT     := 0
  ODD     := false
  MRK     := 0x00
  ACT     := false
  FLT     := 0
  OUT     := []
  inputs  := []
  answers := []
  offered := 0
  tables  := Config.installedTables

end Sys2Proof.Machine
end

