-- ==== Sys2Proof/Machine/Operands.lean ====
section
/-!
DEFINITION. The operand of START: resolving a sample rate to its marker byte (30_encoding.md R50).
The other operand form, the signed sample, needs nothing beyond the decoder (R49).
-/

namespace Sys2Proof.Machine

/-- `Resolve(rate)`: the marker of the rate, or `none` where the pseudocode raises InvalidSampleRate (R50). -/
def resolve (rate : Nat) : Option Byte :=
  if rate = 5000 then some 0x5F
  else if rate = 6000 then some 0x59
  else if rate = 8000 then some 0x53
  else none

end Sys2Proof.Machine
end

