-- ==== Sys2Proof/Syntax.lean ====
section
/-!
DEFINITION. The command set: one constructor per row of spec/opcode_table.json (30_encoding.md R52).
Operands stand as the rules read them: a rate in hertz, a signed sample (R46, R47; DESIGN CHOICE, log entry 10).
-/

namespace Sys2Proof

/-- A command of the block. -/
inductive Instr where
  /-- `op = 0b00`, any `data` (R53). -/
  | reserved (data : Nat)
  /-- `START <rate>`: `op = 0b01`, the sample rate in hertz (R46). -/
  | start (rate : Nat)
  /-- `SAMPLE <value>`: `op = 0b10`, one signed PCM sample (R47). -/
  | sample (value : Int)
  /-- `END`: `op = 0b11`, `data` present in the word and ignored (R48). -/
  | endStream (data : Nat)
deriving DecidableEq, Repr

end Sys2Proof
end

