-- ==== Sys2Proof/WellFormed.lean ====
section
/-!
DEFINITION. Which commands have a word: the operand ranges of 30_encoding.md R46, R47, R48 and R53.
-/

namespace Sys2Proof

/-- `zext_16` of a 16-bit pattern: 0..65535 (R46). -/
def unsigned16 (n : Nat) : Bool := decide (n < 65536)

/-- `sext_16` of a 16-bit pattern: -32768..32767 (R47). -/
def signed16 (v : Int) : Bool := decide (-32768 ≤ v) && decide (v ≤ 32767)

/-- The command's operand fits its 16-bit `data` field. Which rates START accepts is no matter of form: a rate other than
5000, 6000 or 8000 is "a legal encoding that raises InvalidSampleRate" (R54 (a)). -/
def Instr.wellFormed : Instr → Bool
  | .reserved data  => unsigned16 data
  | .start rate     => unsigned16 rate
  | .sample value   => signed16 value
  | .endStream data => unsigned16 data

end Sys2Proof
end

