-- ==== Sys2Proof/Decode.lean ====
section
/-!
DEFINITION. The decoder and the encoder of command words, from 30_encoding.md sections 1 to 3.
-/

namespace Sys2Proof

/-- `sext_N(v)`: the `N`-bit pattern `v` read as two's complement, `v` if `v < 2^(N-1)`, else `v - 2^N` (00_scope.md R6). -/
def sext (bits : Nat) (v : Int) : Int := if v < 2 ^ (bits - 1) then v else v - 2 ^ bits

/-- `op = w[17:16]` (R45). -/
def opField (w : CmdWord) : BitVec 2 := w.extractLsb' 16 2

/-- `data = w[15:0]` (R45). -/
def dataField (w : CmdWord) : BitVec 16 := w.extractLsb' 0 16

/-- The decoder: it "looks at `op` alone" (R45) and assembles the operand as R49 says: a rate is zero-extended, a sample is
sign-extended, neither is scaled. Every 18-bit word is a command, `op = 0b00` being the reserved one (R52, R53). -/
def decode (w : CmdWord) : Instr :=
  if opField w = 0b00#2 then .reserved (dataField w).toNat
  else if opField w = 0b01#2 then .start (dataField w).toNat
  else if opField w = 0b10#2 then .sample (sext 16 (dataField w).toNat)
  else .endStream (dataField w).toNat

/-- Why a number of bits is no command word. -/
inductive DecodeError where
  /-- The number has a bit above bit 17; `cmd_word[17:0]` has no wire for it (R45, R61). -/
  | widerThan18Bits
deriving DecidableEq, Repr

/-- Decoding any number of bits: a command, or the reason it is none. -/
def decodeBits (w : Nat) : Except DecodeError Instr :=
  if w < 262144 then .ok (decode (BitVec.ofNat 18 w)) else .error .widerThan18Bits

/-- The instruction the decoder reads from a table row's bits `w`, bit 0 the least significant of the word. A command is
one 18-bit word whatever `nbits` says, so bits above 17 must be 0. -/
def decodeTableWord (_nbits w : Nat) : Option Instr :=
  match decodeBits w with
  | .ok i    => some i
  | .error _ => none

/-- The word `op`, `data`, `op` in the upper two bits (R45). -/
def cmdWord (op : BitVec 2) (data : BitVec 16) : CmdWord := op ++ data

/-- The word of a well-formed command (R46, R47, R48, R52). -/
def encode : Instr → CmdWord
  | .reserved data  => cmdWord 0b00#2 (BitVec.ofNat 16 data)
  | .start rate     => cmdWord 0b01#2 (BitVec.ofNat 16 rate)
  | .sample value   => cmdWord 0b10#2 (BitVec.ofInt 16 value)
  | .endStream data => cmdWord 0b11#2 (BitVec.ofNat 16 data)

end Sys2Proof
end

