-- ==== Sys2Proof/Machine/Flags.lean ====
section
/-!
DEFINITION. The conditions that steer the commands (41_packer.md R94) and the fault codes (60_exceptions.md R110).
No arithmetic flag exists (10_state.md R14).
-/

namespace Sys2Proof.Machine

/-- The faults the block raises (R110). -/
inductive BlockFault where
  /-- START with a rate other than 5000, 6000 or 8000 (R111). -/
  | invalidSampleRate
  /-- The sink answered `fail` to an `Emit` (R112). -/
  | sinkWriteFailure
  /-- START inside a stream; SAMPLE or END outside one (R113). -/
  | protocolError
  /-- A command word with `op = 0b00` (R114). -/
  | illegalCommand
deriving DecidableEq, Repr

/-- `code(F)` (R110). -/
def BlockFault.code : BlockFault → FaultCode
  | .invalidSampleRate => 1
  | .sinkWriteFailure  => 2
  | .protocolError     => 3
  | .illegalCommand    => 4

/-- "`FLT` is not 0" (41_packer.md R85). -/
def State.faulted (s : State) : Bool := s.FLT != 0

/-- The condition of marker injection, read after the increment: the counter has reached 256, that is, wrapped to 0 (R96). -/
def State.counterWrapped (s : State) : Bool := s.CNT == 0

end Sys2Proof.Machine
end

