-- ==== Sys2Proof/Machine/Ops.lean ====
section
/-!
DEFINITION. The named operations of the pseudocode: register writes, the two ROM reads, `Emit`, `raise`, power-on reset
(00_scope.md R7).
-/

namespace Sys2Proof.Machine

/-! ## Register writes, `REG <- v` (R7) -/

/-- `AS <- v` -/
def State.setAS (s : State) (v : Nibble) : State := { s with AS := v }
/-- `STG <- v` -/
def State.setSTG (s : State) (v : Byte) : State := { s with STG := v }
/-- `CNT <- v` -/
def State.setCNT (s : State) (v : Byte) : State := { s with CNT := v }
/-- `ODD <- v` -/
def State.setODD (s : State) (v : Bool) : State := { s with ODD := v }
/-- `MRK <- v` -/
def State.setMRK (s : State) (v : Byte) : State := { s with MRK := v }
/-- `ACT <- v` -/
def State.setACT (s : State) (v : Bool) : State := { s with ACT := v }
/-- `FLT <- v` -/
def State.setFLT (s : State) (v : FaultCode) : State := { s with FLT := v }

/-! ## ROM reads -/

/-- `StateRom(c)`: entry `c` of the STATE ROM (20_memory.md R30). -/
def stateRom (t : Tables) (c : Nibble) : Int := t.stateTable[c.toNat]'c.isLt

/-- `StepRom(r, c)`: row `r`, column `c` of the STEP ROM (20_memory.md R31). -/
def stepRom (t : Tables) (r c : Nibble) : Int := (t.stepTable[r.toNat]'r.isLt)[c.toNat]'c.isLt

/-! ## The sink -/

/-- The answer the sink gives to the `k`-th byte offered from now on, `k = 0` being the next (R32): the run's own answer
where it fixes one, else the free value (log entry 3). -/
def State.answerAt (s : State) (k : Nat) : SinkAnswer :=
  s.answers.getD k (Config.sinkAnswer (s.offered + k))

/-- One byte offered to the sink and answered: the answer is used up. -/
def State.consumeAnswer (s : State) : State :=
  { s with answers := s.answers.tail, offered := s.offered + 1 }

/-- The byte the sink accepted goes to the end of the output history (R22). -/
def State.appendOut (s : State) (b : Byte) : State := { s with OUT := s.OUT ++ [b] }

/-- `Emit(b)`: the sink's answer, and the state after it: `b` appended to `OUT` on `ok`, nothing on `fail` (R32). -/
def emit (b : Byte) (s : State) : SinkAnswer × State :=
  match s.answerAt 0 with
  | .ok   => (.ok, s.consumeAnswer.appendOut b)
  | .fail => (.fail, s.consumeAnswer)

/-! ## Faults -/

/-- `raise F`: "`FLT <- code(F)`, and the command ends"; nothing is saved, nothing is redirected (60_exceptions.md R118). -/
def raise (f : BlockFault) (s : State) : Result := .next (s.setFLT f.code)

/-- `if Emit(b) = fail then raise SinkWriteFailure`, and the rest of the command on `ok` (R112). -/
def emitOrFault (b : Byte) (s : State) (rest : State → Result) : Result :=
  match emit b s with
  | (.ok, s')   => rest s'
  | (.fail, s') => raise .sinkWriteFailure s'

/-- The first line of every command, `if FLT != 0 then return`, and the rest of the command otherwise (41_packer.md R85). -/
def unlessFaulted (s : State) (rest : Result) : Result :=
  if s.faulted then .next s else rest

/-! ## Leaving a fault -/

/-- Power-on reset writes every register and emits nothing; it is the only way out of a fault (70_reset_and_hazards.md R130).
`OUT` is not shortened and the tables are not affected (R133). -/
def powerOnReset (s : State) : State :=
  ((((((s.setAS 0).setSTG 0x00).setCNT 0).setODD false).setMRK 0x00).setACT false).setFLT 0

/-! ## Status outputs -/

/-- `flt[2:0]`, "a copy of `FLT`" (30_encoding.md R61). -/
def State.fltPort (s : State) : BitVec 3 := s.FLT

/-- `act`, "a copy of `ACT`" (R61). -/
def State.actPort (s : State) : BitVec 1 := BitVec.ofBool s.ACT

end Sys2Proof.Machine
end

