-- ==== Sys2Proof/Machine/Predictor.lean ====
section
/-!
DEFINITION. The predictor: `ENCODE` and its steps, one definition per rule (40_predictor.md R65 to R73).
-/

namespace Sys2Proof.Machine

/-- `asr(v, k)`: the floor of `v / 2^k` (00_scope.md R6). -/
def asr (v : Int) (k : Nat) : Int := v.fdiv (2 ^ k)

/-- `clamp4(v)`: 0 below 0, 15 above 15, else `v` (00_scope.md R6). -/
def clamp4 (v : Int) : Nibble := if v < 0 then 0 else if 15 < v then 15 else BitVec.ofInt 4 v

/-- Step 1, quantise: `v8 = sext_8(asr(s, 7) mod 256)`; the narrowing wraps (R66, D4; log entry 13). -/
def quantise (sample : Int) : Int := sext 8 (asr sample 7 % 256)

/-- Steps 1 and 3: the clamped sample code `c`, column of both tables (R69). -/
def sampleCode (sample : Int) : Nibble := clamp4 (quantise sample)

/-- Steps 2, 4 and the added clamp: the new state `ns = clamp4(StateRom(c) - a)`, table first
(R68, R70, R71, D5; log entry 14). -/
def nextState (t : Tables) (state : Int) (c : Nibble) : Nibble :=
  clamp4 (stateRom t c - (clamp4 state).int)

/-- Steps 5 and 6: the low four bits of `StepRom(ns, c) - c`, table first (R72, R73). -/
def outputNibble (t : Tables) (ns c : Nibble) : Nibble := BitVec.ofInt 4 (stepRom t ns c - c.int)

/-- `ENCODE(s, state)`: the nibble and the new state (R65). -/
def encodeSample (t : Tables) (sample state : Int) : Nibble × Nibble :=
  let c := sampleCode sample
  let ns := nextState t state c
  (outputNibble t ns c, ns)

end Sys2Proof.Machine
end

