-- ==== Sys2Proof/Machine/Packer.lean ====
section
/-!
DEFINITION. The packer: the meaning of each command (41_packer.md R86, R89, R99, R101), line by line as its pseudocode.
-/

namespace Sys2Proof.Machine

/-- `((STG << 4) | zext_8(nib))[7:0]`: the held nibble above, the new one below (R92). -/
def packPair (stg : Byte) (nib : Nibble) : Byte := (stg <<< 4) ||| nib.setWidth 8

/-- `(STG << 4)[7:0]`: the held nibble above, zeros below (R99). -/
def padSingle (stg : Byte) : Byte := stg <<< 4

/-- RESERVED, `op = 0b00`: IllegalCommand whatever its `data`, inside and outside a stream (R101). -/
def execReserved (_data : Nat) (s : State) : Result :=
  unlessFaulted s <| raise .illegalCommand s

/-- START: resolve the marker, emit it, open the stream (R86). -/
def execStart (rate : Nat) (s : State) : Result :=
  unlessFaulted s <|
  if s.ACT then raise .protocolError s else
  match resolve rate with
  | none   => raise .invalidSampleRate s
  | some m =>
    emitOrFault m s fun s =>
      .next (((((s.setMRK m).setAS 0).setCNT 0).setODD false).setACT true)

/-- First nibble of a pair: hold it (R91). -/
def holdNibble (nib : Nibble) (s : State) : Result :=
  .next ((s.setSTG (nib.setWidth 8)).setODD true)

/-- Second nibble of a pair: emit the packed byte, count it, and inject the marker when the counter wraps (R92, R93, R96). -/
def pairNibble (nib : Nibble) (s : State) : Result :=
  emitOrFault (packPair s.STG nib) s fun s =>
    let s := (s.setCNT (s.CNT + 1)).setODD false
    if s.counterWrapped then emitOrFault s.MRK s .next else .next s

/-- SAMPLE: run `ENCODE`, write back `AS`, then hold the nibble or pair it (R89, R75). -/
def execSample (value : Int) (s : State) : Result :=
  unlessFaulted s <|
  if !s.ACT then raise .protocolError s else
  let e := encodeSample s.tables value s.AS.int
  let s := s.setAS e.2
  if s.ODD then pairNibble e.1 s else holdNibble e.1 s

/-- END: emit the held single nibble padded with zeros, if there is one, and close the stream; the padded byte is not counted
(R99; D15, log entry 15). -/
def execEndStream (_data : Nat) (s : State) : Result :=
  unlessFaulted s <|
  if !s.ACT then raise .protocolError s else
  if s.ODD then
    emitOrFault (padSingle s.STG) s fun s => .next ((s.setODD false).setACT false)
  else .next (s.setACT false)

end Sys2Proof.Machine
end

