-- ==== Sys2Proof/Machine/Dispatch.lean ====
section
/-!
DEFINITION. One arm per command (30_encoding.md R52).
-/

namespace Sys2Proof.Machine

/-- The effect of one command on the state. -/
def exec (i : Instr) (s : State) : Host.Outcome State Fault Refusal :=
  match i with
  | .reserved data => Sys2Proof.Machine.execReserved data s
  | .start rate => Sys2Proof.Machine.execStart rate s
  | .sample value => Sys2Proof.Machine.execSample value s
  | .endStream data => Sys2Proof.Machine.execEndStream data s

end Sys2Proof.Machine
end

