-- ==== Sys2Proof/Machine/Step.lean ====
section
/-!
DEFINITION. One step: the block consumes the next input and runs its rule to the end (00_scope.md R8).
-/

namespace Sys2Proof.Machine

/-- One step. A command word is decoded and executed; `rst` resets the registers; with no input offered the block waits and
"simply holds its registers" (60_exceptions.md R125, 70_reset_and_hazards.md R132; DEDUCED, log entry 1). -/
def step (s : State) : Host.Outcome State Fault Refusal :=
  match s.inputs with
  | []                 => .next s
  | .rst :: rest       => .next (powerOnReset { s with inputs := rest })
  | .command w :: rest => exec (decode w) { s with inputs := rest }

/-- `s` with the word `w` offered as the next command, before whatever was to come: the next step takes exactly it. The input
channel has 18 wires, so bits of `w` above 17 do not reach the block (log entry 11). -/
def State.withFetchWord (s : State) (_nbits w : Nat) : State :=
  { s with inputs := .command (BitVec.ofNat 18 w) :: s.inputs }

end Sys2Proof.Machine
end

