-- ==== Sys2Proof/Safety.lean ====
section
/-!
DEFINITION. The terms claims are stated in: the invariants of the registers and of an open stream, a sink that accepts,
runs of steps, and the byte stream a whole stream must produce (30_encoding.md R58, 41_packer.md section 7).
-/

namespace Sys2Proof.Machine

/-! ## Invariants -/

/-- The invariants of 10_state.md R24 that the fields' types do not already give ((a) and (c) are the widths of `AS` and `CNT`):
(b) the staging register's upper half is 0; (d) the marker is a legal one, and a real one inside a stream; (e) outside a
stream no nibble is held; (f) the fault code is one of R110. -/
abbrev State.Inv (s : State) : Prop :=
  s.STG.toNat < 16 ∧
  (s.MRK = 0x00 ∨ s.MRK = 0x5F ∨ s.MRK = 0x59 ∨ s.MRK = 0x53) ∧
  (s.ACT = true → s.MRK ≠ 0x00) ∧
  (s.ACT = false → s.ODD = false) ∧
  s.FLT.toNat ≤ 4

/-- Data bytes with a marker after each 256th, `k` of them having gone before (R58, R96). -/
def withMarkers (m : Byte) : Nat → List Byte → List Byte
  | _, []      => []
  | k, b :: bs => if (k + 1) % 256 = 0 then b :: m :: withMarkers m (k + 1) bs else b :: withMarkers m (k + 1) bs

/-- The stream that began when the history was `before` has emitted the data bytes `data`: the output is `before`, the marker, and
`data` with a marker after each 256th of them, and `CNT` counts them modulo 256 (R13, R58, R93, R96). -/
def State.FramedBy (s : State) (before data : List Byte) : Prop :=
  s.OUT = before ++ s.MRK :: withMarkers s.MRK 0 data ∧ s.CNT.toNat = data.length % 256

/-- An open stream of a block without a fault is framed from some beginning. That the beginning is the place where START stood is no
fact about one state; `Obligations.StepKeepsStreamFraming` says it of steps. -/
def State.Framed (s : State) : Prop :=
  s.FLT = 0 → s.ACT = true → ∃ before data, s.FramedBy before data

/-! ## The sink and runs -/

/-- The sink accepts the next `n` bytes offered to it: the premise `SinkAlwaysAccepts` (92_eei_decisions.md D14) for as
many bytes as a claim is about. -/
abbrev State.acceptsNext (s : State) (n : Nat) : Prop := ∀ k < n, s.answerAt k = .ok

/-- `n` steps. -/
def steps : Nat → State → Result
  | 0, s     => .next s
  | n + 1, s =>
    match step s with
    | .next s'   => steps n s'
    | .fault r   => .fault r
    | .refused r => .refused r

/-! ## One stream (41_packer.md R102 to R106) -/

/-- The inputs `START rate; SAMPLE s0; ...; SAMPLE s(n-1); END`, operands as 16-bit patterns (30_encoding.md R45 to R48). -/
def streamInputs (rate : BitVec 16) (samples : List (BitVec 16)) (endData : BitVec 16) : List Input :=
  .command (cmdWord 0b01#2 rate) :: (samples.map fun d => Input.command (cmdWord 0b10#2 d)) ++ [.command (cmdWord 0b11#2 endData)]

/-- `q[0] .. q[n-1]`: the nibbles of the samples, the state threaded from `a` (R104). -/
def nibbles (t : Tables) : Nibble → List (BitVec 16) → List Nibble
  | _, []      => []
  | a, d :: ds => (encodeSample t d.toInt a.int).1 :: nibbles t (encodeSample t d.toInt a.int).2 ds

/-- `A[n]`: the adaptation state after the samples, from `a` (R104). -/
def stateAfter (t : Tables) : Nibble → List (BitVec 16) → Nibble
  | a, []      => a
  | a, d :: ds => stateAfter t (encodeSample t d.toInt a.int).2 ds

/-- `{q[2k], q[2k+1]}` for every full pair (R58). -/
def pairedBytes : List Nibble → List Byte
  | q :: q' :: qs => (q ++ q') :: pairedBytes qs
  | [_]           => []
  | []            => []

/-- `{q[n-1], 0b0000}` when the number of nibbles is odd, else nothing (R57, R58). -/
def paddedByte : List Nibble → List Byte
  | _ :: _ :: qs => paddedByte qs
  | [q]          => [q ++ 0b0000#4]
  | []           => []

/-- The bytes of one stream with marker `m` (R58, R106). -/
def packStream (t : Tables) (m : Byte) (samples : List (BitVec 16)) : List Byte :=
  m :: (withMarkers m 0 (pairedBytes (nibbles t 0 samples)) ++ paddedByte (nibbles t 0 samples))

/-- How many bytes a stream of `n` samples has (R102). -/
def streamLength (n : Nat) : Nat := 1 + (n + 1) / 2 + n / 2 / 256

/-- The premises of 41_packer.md section 7: no fault, no stream open, the inputs begin with the stream's commands, the rate is
one of the three and `m` its marker (R50), and the sink accepts the stream's bytes. -/
abbrev State.startsStream (s : State) (rate : BitVec 16) (m : Byte) (samples : List (BitVec 16)) (endData : BitVec 16)
    (rest : List Input) : Prop :=
  s.FLT = 0 ∧ s.ACT = false ∧ s.inputs = streamInputs rate samples endData ++ rest ∧
  (rate, m) ∈ [(5000#16, 0x5F#8), (6000#16, 0x59#8), (8000#16, 0x53#8)] ∧
  s.acceptsNext (streamLength samples.length)

end Sys2Proof.Machine
end

