-- ==== Sys2Proof/Certificates/Slice0/Obligations.lean ====
section
/-!
DEFINITION. The statements about the block, from the numbered rules of spec/ (00_scope.md to 70_reset_and_hazards.md).
Where a docstring says that the spec marks a rule as its own decision or as derived, the statement formalises that text.
-/

open Sys2Proof Sys2Proof.Machine

/-! ## Command words -/

/-- R52, the whole opcode map, by the table's match and mask values: which command each of the 2^18 words is, with a rate
zero-extended and a sample sign-extended. -/
def Obligations.OpcodeMapDecoding : Prop :=
  ∀ w : CmdWord,
    (w &&& 0x30000#18 = 0x00000#18 → decode w = .reserved (w &&& 0x0FFFF#18).toNat) ∧
    (w &&& 0x30000#18 = 0x10000#18 → decode w = .start (w &&& 0x0FFFF#18).toNat) ∧
    (w &&& 0x30000#18 = 0x20000#18 → decode w = .sample (w.setWidth 16).toInt) ∧
    (w &&& 0x30000#18 = 0x30000#18 → decode w = .endStream (w &&& 0x0FFFF#18).toNat)

/-- Every well-formed command, with every operand its encoding admits, is what the decoder reads from its word. -/
def Obligations.DecodeOfEncodeIsIdentity : Prop :=
  ∀ i : Instr, i.wellFormed = true → decode (encode i) = i

/-- Every 18-bit word decodes to a well-formed command whose word it is: no word has two meanings and none has none. -/
def Obligations.EncodeOfDecodeIsIdentity : Prop :=
  ∀ w : CmdWord, (decode w).wellFormed = true ∧ encode (decode w) = w

/-- The full words that R46, R47 and R48 print, and reserved words of R53, decode to the commands they stand for. -/
def Obligations.ExampleWordsDecode : Prop :=
  decode 0x11388#18 = .start 5000 ∧ decode 0x11770#18 = .start 6000 ∧ decode 0x11F40#18 = .start 8000 ∧
  decode 0x20000#18 = .sample 0 ∧ decode 0x20380#18 = .sample 896 ∧ decode 0x2FFFF#18 = .sample (-1) ∧
  decode 0x28000#18 = .sample (-32768) ∧ decode 0x30000#18 = .endStream 0 ∧ decode 0x3ABCD#18 = .endStream 0xABCD ∧
  decode 0x00000#18 = .reserved 0 ∧ decode 0x0FFFF#18 = .reserved 0xFFFF

/-- A number of bits is read as a command exactly when it has no bit above bit 17, whatever `nbits` is. The model's choice (DESIGN
CHOICE, log entry 11): the spec numbers 18 bits and says nothing of a longer number. -/
def Obligations.NumbersAboveEighteenBitsAreNoCommand : Prop :=
  ∀ nbits w : Nat, decodeTableWord nbits w = if w < 2 ^ 18 then some (decode (BitVec.ofNat 18 w)) else none

/-- R48: a word with `op = 0b11` acts as the canonical word 0x30000 whatever its `data`, in every state. -/
def Obligations.EndIgnoresItsData : Prop :=
  ∀ (s : State) (w : CmdWord) (rest : List Input), w &&& 0x30000#18 = 0x30000#18 →
    step { s with inputs := .command w :: rest } = step { s with inputs := .command 0x30000#18 :: rest }

/-- R53 (the spec's decision D2): a word with `op = 0b00` raises IllegalCommand whatever its `data`; it is no no-operation. -/
def Obligations.ReservedWordRaisesIllegalCommand : Prop :=
  ∀ (s : State) (w : CmdWord) (rest : List Input), w &&& 0x30000#18 = 0x00000#18 → s.FLT = 0 →
    step { s with inputs := .command w :: rest } = .next { s with inputs := rest, FLT := 4 }

/-! ## Steps and reset -/

/-- A step with a command word offered runs exactly the decoded command, the word taken off the input (R8, R45). -/
def Obligations.StepExecutesDecodedCommand : Prop :=
  ∀ (s : State) (w : CmdWord) (rest : List Input), s.inputs = .command w :: rest →
    step s = exec (decode w) { s with inputs := rest }

/-- With no input offered the block waits and holds everything. The model's reading of 60_exceptions.md section 4 ("between
commands it simply holds its registers"); DEDUCED, log entry 1. -/
def Obligations.BlockWithoutInputHolds : Prop :=
  ∀ s : State, s.inputs = [] → step s = .next s

/-- A step on `rst` gives every register its value of 70_reset_and_hazards.md section 1 (R130, the spec's decision D10), and `rst`
is the only thing that clears `FLT`. That `OUT` and the tables are kept is R133, which the spec marks as derived; that `rst` is
an input which stands between two commands, and that it keeps the sink's answers, the count of bytes offered and the later
inputs, is the model's reading and choice (DEDUCED and DESIGN CHOICE, log entry 2). -/
def Obligations.PowerOnResetWritesEveryRegister : Prop :=
  (∀ (s : State) (rest : List Input), s.inputs = .rst :: rest →
    step s = .next { s with
      AS := 0, STG := 0x00, CNT := 0, ODD := false, MRK := 0x00, ACT := false, FLT := 0, inputs := rest }) ∧
  (∀ s t : State, step s = .next t → s.FLT ≠ 0 → t.FLT = 0 → ∃ rest, s.inputs = .rst :: rest)

/-- `State.reset` has the register values of R130 and an empty history. (Its empty `inputs` and `answers` are the model's
choice, log entries 1 and 3, and are not stated.) -/
def Obligations.ResetStateHasTheResetValues : Prop :=
  State.reset.AS = 0 ∧ State.reset.STG = 0x00 ∧ State.reset.CNT = 0 ∧ State.reset.ODD = false ∧
  State.reset.MRK = 0x00 ∧ State.reset.ACT = false ∧ State.reset.FLT = 0 ∧ State.reset.OUT = []

/-- In a faulted block a step takes the offered command word and does nothing else (60_exceptions.md R119). -/
def Obligations.FaultedStepOnlyTakesTheWord : Prop :=
  ∀ (s : State) (w : CmdWord) (rest : List Input), s.FLT ≠ 0 → s.inputs = .command w :: rest →
    step s = .next { s with inputs := rest }

/-- Every step of every state ends in a next state: each command is a finite, loop-free sequence (R141), and a fault is a value of
`FLT` (R118). Three conventions of the model carry this: the refusals that R53 and R113 allow instead are not taken (DESIGN
CHOICE, log entry 6); a step with no input is an idle step (DEDUCED, log entry 1); and the sink answers every byte offered, the
spec's assumption D18 (log entry 12): with a sink that never answers the block would hang. -/
def Obligations.EveryStepCompletes : Prop :=
  ∀ s : State, ∃ t, step s = .next t

/-- Every step, a reset included, leaves the tables alone and appends at most two bytes to the history of accepted bytes,
which it never shortens (R22, R23, R36, R133). -/
def Obligations.StepsOnlyExtendTheOutput : Prop :=
  ∀ s t : State, step s = .next t →
    t.tables = s.tables ∧ ∃ bytes, t.OUT = s.OUT ++ bytes ∧ bytes.length ≤ 2

/-! ## The predictor -/

/-- R66 (narrowing by truncation is the spec's decision D4): `v9` is the floor of `s / 128`, in -256..255, and `v8` is the
value in -128..127 that agrees with `v9` modulo 256. -/
def Obligations.QuantiseTruncatesToEightBits : Prop :=
  ∀ s : Int, -32768 ≤ s → s ≤ 32767 →
    (128 * asr s 7 ≤ s ∧ s < 128 * asr s 7 + 128) ∧ (-256 ≤ asr s 7 ∧ asr s 7 ≤ 255) ∧
    (-128 ≤ quantise s ∧ quantise s ≤ 127) ∧ (quantise s - asr s 7) % 256 = 0

/-- R65, the six steps and the added clamp (decision D5), in exact integer arithmetic: for every pair of tables, sample and
integer state, with `max`, `min` and the non-negative remainder in place of the model's own operations. -/
def Obligations.EncodeFollowsItsSteps : Prop :=
  ∀ (t : Tables) (sample state : Int), ∃ nib ns c : Nibble,
    encodeSample t sample state = (nib, ns) ∧
    (c.toNat : Int) = max 0 (min 15 ((sample / 128 + 128) % 256 - 128)) ∧
    (ns.toNat : Int) = max 0 (min 15 (t.stateTable[c.toNat]'c.isLt - max 0 (min 15 state))) ∧
    (nib.toNat : Int) = ((t.stepTable[ns.toNat]'ns.isLt)[c.toNat]'c.isLt - (c.toNat : Int)) % 16

/-- Step 2 (part of R68): `ENCODE` on a state below 0 is `ENCODE` on 0, on a state above 15 it is `ENCODE` on 15. -/
def Obligations.EncodeClampsItsState : Prop :=
  ∀ (t : Tables) (sample state : Int),
    (state < 0 → encodeSample t sample state = encodeSample t sample 0) ∧
    (15 < state → encodeSample t sample state = encodeSample t sample 15)

/-- The clamped sample code from the bits of the sample: 0 if bit 14 is set, else 15 if bits 13:11 are not all 0, else bits
10:7 (40_predictor.md R78, which the spec marks as derived). -/
def Obligations.SampleCodeFromBits : Prop :=
  ∀ data : BitVec 16,
    sampleCode data.toInt =
      if data.getLsbD 14 = true then 0
      else if data.extractLsb' 11 3 ≠ 0 then 15
      else data.extractLsb' 7 4

/-- Two samples that agree on bits 14:7, whatever their sign bit and low bits, give the same nibble and the same new state, for
every state and all tables (40_predictor.md R67, which the spec marks as derived). -/
def Obligations.EncodeIgnoresSignAndLowBits : Prop :=
  ∀ (t : Tables) (state : Int) (d d' : BitVec 16), d.extractLsb' 7 8 = d'.extractLsb' 7 8 →
    encodeSample t d.toInt state = encodeSample t d'.toInt state

/-! ## The commands -/

/-- R50: the three rates and their markers, and no marker for any other rate. -/
def Obligations.RatesResolveToTheirMarkers : Prop :=
  resolve 5000 = some 0x5F ∧ resolve 6000 = some 0x59 ∧ resolve 8000 = some 0x53 ∧
  ∀ rate, rate ≠ 5000 → rate ≠ 6000 → rate ≠ 8000 → resolve rate = none

/-- The first sentence of R85: every command in a faulted block ends at once, writes nothing and emits nothing. -/
def Obligations.FaultedCommandsDoNothing : Prop :=
  ∀ (i : Instr) (s : State), s.FLT ≠ 0 → exec i s = .next s

/-- R101 (the spec's decision D2): RESERVED does nothing in a faulted block and otherwise only writes `FLT <- 4`, inside and
outside a stream. -/
def Obligations.ReservedCommandRule : Prop :=
  ∀ (data : Nat) (s : State),
    (s.FLT ≠ 0 → exec (.reserved data) s = .next s) ∧
    (s.FLT = 0 → exec (.reserved data) s = .next { s with FLT := 4 })

/-- R86, every case of START with its whole next state: ignored in a faulted block; ProtocolError inside a stream; a rate that
is none of the three raises InvalidSampleRate; the marker refused raises SinkWriteFailure; the marker accepted opens the
stream. One answer of the sink is used up where a byte is offered (log entry 3). -/
def Obligations.StartCommandRule : Prop :=
  ∀ (rate : Nat) (s : State),
    (s.FLT ≠ 0 → exec (.start rate) s = .next s) ∧
    (s.FLT = 0 → s.ACT = true → exec (.start rate) s = .next { s with FLT := 3 }) ∧
    (s.FLT = 0 → s.ACT = false → rate ≠ 5000 → rate ≠ 6000 → rate ≠ 8000 →
      exec (.start rate) s = .next { s with FLT := 1 }) ∧
    ∀ m : Byte, (rate, m) ∈ [(5000, 0x5F#8), (6000, 0x59#8), (8000, 0x53#8)] → s.FLT = 0 → s.ACT = false →
      (s.answerAt 0 = .fail →
        exec (.start rate) s = .next { s with FLT := 2, answers := s.answers.tail, offered := s.offered + 1 }) ∧
      (s.answerAt 0 = .ok →
        exec (.start rate) s = .next { s with
          MRK := m, AS := 0, CNT := 0, ODD := false, ACT := true, OUT := s.OUT ++ [m],
          answers := s.answers.tail, offered := s.offered + 1 })

/-- R89, every case of SAMPLE with its whole next state, for every sample value, adaptation state and pair of tables: ignored in
a faulted block; ProtocolError outside a stream; first nibble held; pair emitted and counted; pair emitted, counter wrapped
and marker injected; data byte refused (`CNT` and `ODD` not updated, `AS` written); marker refused (`CNT = 0`, `ODD = 0`
stand). The emitted byte is the lower half of `STG` above the new nibble. -/
def Obligations.SampleCommandRule : Prop :=
  ∀ (value : Int) (s : State) (nib ns : Nibble), encodeSample s.tables value s.AS.toNat = (nib, ns) →
    (s.FLT ≠ 0 → exec (.sample value) s = .next s) ∧
    (s.FLT = 0 → s.ACT = false → exec (.sample value) s = .next { s with FLT := 3 }) ∧
    (s.FLT = 0 → s.ACT = true → s.ODD = false →
      exec (.sample value) s = .next { s with AS := ns, STG := 0#4 ++ nib, ODD := true }) ∧
    (s.FLT = 0 → s.ACT = true → s.ODD = true → s.answerAt 0 = .fail →
      exec (.sample value) s = .next { s with
        AS := ns, FLT := 2, answers := s.answers.tail, offered := s.offered + 1 }) ∧
    (s.FLT = 0 → s.ACT = true → s.ODD = true → s.answerAt 0 = .ok → s.CNT ≠ 255 →
      exec (.sample value) s = .next { s with
        AS := ns, CNT := s.CNT + 1, ODD := false, OUT := s.OUT ++ [s.STG.extractLsb' 0 4 ++ nib],
        answers := s.answers.tail, offered := s.offered + 1 }) ∧
    (s.FLT = 0 → s.ACT = true → s.ODD = true → s.answerAt 0 = .ok → s.CNT = 255 → s.answerAt 1 = .ok →
      exec (.sample value) s = .next { s with
        AS := ns, CNT := 0, ODD := false, OUT := s.OUT ++ [s.STG.extractLsb' 0 4 ++ nib, s.MRK],
        answers := s.answers.tail.tail, offered := s.offered + 2 }) ∧
    (s.FLT = 0 → s.ACT = true → s.ODD = true → s.answerAt 0 = .ok → s.CNT = 255 → s.answerAt 1 = .fail →
      exec (.sample value) s = .next { s with
        AS := ns, CNT := 0, ODD := false, FLT := 2, OUT := s.OUT ++ [s.STG.extractLsb' 0 4 ++ nib],
        answers := s.answers.tail.tail, offered := s.offered + 2 })

/-- R99, every case of END with its whole next state: ignored in a faulted block; ProtocolError outside a stream; nothing held,
only `ACT` cleared; the held nibble emitted above four zero bits, not counted and followed by no marker (the spec's decision
D15); the final byte refused. -/
def Obligations.EndCommandRule : Prop :=
  ∀ (data : Nat) (s : State),
    (s.FLT ≠ 0 → exec (.endStream data) s = .next s) ∧
    (s.FLT = 0 → s.ACT = false → exec (.endStream data) s = .next { s with FLT := 3 }) ∧
    (s.FLT = 0 → s.ACT = true → s.ODD = false → exec (.endStream data) s = .next { s with ACT := false }) ∧
    (s.FLT = 0 → s.ACT = true → s.ODD = true → s.answerAt 0 = .ok →
      exec (.endStream data) s = .next { s with
        ODD := false, ACT := false, OUT := s.OUT ++ [s.STG.extractLsb' 0 4 ++ 0b0000#4],
        answers := s.answers.tail, offered := s.offered + 1 }) ∧
    (s.FLT = 0 → s.ACT = true → s.ODD = true → s.answerAt 0 = .fail →
      exec (.endStream data) s = .next { s with
        FLT := 2, answers := s.answers.tail, offered := s.offered + 1 })

/-- R111: from every idle, fault-free block a START word whose rate is none of the three raises InvalidSampleRate and changes
nothing else: zero output bytes, nothing recorded. -/
def Obligations.UnsupportedRateEmitsNothing : Prop :=
  ∀ (s : State) (rate : BitVec 16) (rest : List Input),
    s.FLT = 0 → s.ACT = false → rate ≠ 5000 → rate ≠ 6000 → rate ≠ 8000 →
    s.inputs = .command (0b01#2 ++ rate) :: rest → step s = .next { s with FLT := 1, inputs := rest }

/-- R117 and R85, the fixed order of the checks: which fault, if any, a command leaves in `FLT`. In a faulted block the old one; else
IllegalCommand before ProtocolError before InvalidSampleRate before the refused emissions in program order. -/
def Obligations.FaultPriority : Prop :=
  ∀ (i : Instr) (s t : State), exec i s = .next t →
    (s.FLT ≠ 0 → t = s) ∧
    (s.FLT = 0 → t.FLT =
      match i with
      | .reserved _ => 4
      | .start rate =>
        if s.ACT = true then 3 else if rate ∉ [5000, 6000, 8000] then 1 else if s.answerAt 0 = .fail then 2 else 0
      | .sample _ =>
        if s.ACT = false then 3
        else if s.ODD = true ∧ (s.answerAt 0 = .fail ∨ (s.CNT = 255 ∧ s.answerAt 1 = .fail)) then 2 else 0
      | .endStream _ =>
        if s.ACT = false then 3 else if s.ODD = true ∧ s.answerAt 0 = .fail then 2 else 0)

/-- R93 (modulo 256 is the spec's decision D9): the counter goes up by one exactly for the data byte of a pair that the sink
accepts; START, accepted, writes 0; nothing else moves it, not a first nibble and not the padded byte of END. -/
def Obligations.CounterCountsPairedBytes : Prop :=
  ∀ (i : Instr) (s t : State), exec i s = .next t →
    t.CNT =
      match i with
      | .reserved _ => s.CNT
      | .start rate =>
        if s.FLT = 0 ∧ s.ACT = false ∧ rate ∈ [5000, 6000, 8000] ∧ s.answerAt 0 = .ok then 0 else s.CNT
      | .sample _ =>
        if s.FLT = 0 ∧ s.ACT = true ∧ s.ODD = true ∧ s.answerAt 0 = .ok then s.CNT + 1 else s.CNT
      | .endStream _ => s.CNT

/-- The output multiplexer: what a command appends to the output is nothing, the marker START resolved, a packed pair, a packed
pair and the marker in `MRK`, or a padded single (41_packer.md R90, which the spec marks as derived). -/
def Obligations.OutputComesFromTheMultiplexer : Prop :=
  ∀ (i : Instr) (s t : State), exec i s = .next t →
    t.OUT = s.OUT ∨
    (∃ rate m, i = .start rate ∧ resolve rate = some m ∧ t.MRK = m ∧ t.OUT = s.OUT ++ [m]) ∨
    (∃ value, i = .sample value ∧ s.ODD = true ∧
      let b := s.STG.extractLsb' 0 4 ++ (encodeSample s.tables value s.AS.toNat).1
      t.OUT = s.OUT ++ [b] ∨ (s.CNT = 255 ∧ t.OUT = s.OUT ++ [b, s.MRK])) ∨
    (∃ data, i = .endStream data ∧ s.ODD = true ∧ t.OUT = s.OUT ++ [s.STG.extractLsb' 0 4 ++ 0b0000#4])

/-- How many bytes each command appends when the sink accepts (41_packer.md R95, which the spec marks as derived). -/
def Obligations.EmissionCountPerCommand : Prop :=
  ∀ (i : Instr) (s t : State), s.acceptsNext 2 → exec i s = .next t →
    t.OUT.length = s.OUT.length +
      if t.FLT ≠ 0 then 0
      else match i with
        | .reserved _  => 0
        | .start _     => 1
        | .sample _    => if s.ODD = false then 0 else if s.CNT = 255 then 2 else 1
        | .endStream _ => if s.ODD = true then 1 else 0

/-- `Emit`: an accepted byte goes to the end of the history, a refused byte leaves it as it was; either way the answer is returned
and used up and nothing else changes (20_memory.md R32; how the answers are held is log entry 3). -/
def Obligations.EmitAppendsExactlyAcceptedBytes : Prop :=
  ∀ (b : Byte) (s : State),
    emit b s = (s.answerAt 0, { s with
      OUT := if s.answerAt 0 = .ok then s.OUT ++ [b] else s.OUT, answers := s.answers.tail, offered := s.offered + 1 }) ∧
    ∀ k, (emit b s).2.answerAt k = s.answerAt (k + 1)

/-! ## Frames (the access table of 10_state.md R25, which the spec marks as derived) -/

/-- START leaves `STG`, the tables and the inputs alone; where it does not open a stream, every register but `FLT`. What it
stores is the marker it resolved, at the end of `OUT`, and nothing else. -/
def Obligations.FrameOfStart : Prop :=
  ∀ (rate : Nat) (s t : State), exec (.start rate) s = .next t →
    t.STG = s.STG ∧ t.tables = s.tables ∧ t.inputs = s.inputs ∧
    (t.FLT ≠ 0 → t.AS = s.AS ∧ t.CNT = s.CNT ∧ t.ODD = s.ODD ∧ t.MRK = s.MRK ∧ t.ACT = s.ACT ∧ t.OUT = s.OUT) ∧
    (t.FLT = 0 → ∃ m, resolve rate = some m ∧ t.OUT = s.OUT ++ [m])

/-- SAMPLE leaves `MRK`, `ACT`, the tables and the inputs alone; a first nibble leaves `CNT`, `OUT` and the sink alone; a second
nibble leaves `STG` alone; outside a stream every register but `FLT` stays. -/
def Obligations.FrameOfSample : Prop :=
  ∀ (value : Int) (s t : State), exec (.sample value) s = .next t →
    t.MRK = s.MRK ∧ t.ACT = s.ACT ∧ t.tables = s.tables ∧ t.inputs = s.inputs ∧
    (s.ODD = false → t.CNT = s.CNT ∧ t.OUT = s.OUT ∧ t.answers = s.answers ∧ t.offered = s.offered) ∧
    (s.ODD = true → t.STG = s.STG) ∧
    (s.ACT = false → t = { s with FLT := t.FLT })

/-- END leaves `AS`, `STG`, `CNT`, `MRK`, the tables and the inputs alone; with no nibble held, `OUT` and the sink too. -/
def Obligations.FrameOfEnd : Prop :=
  ∀ (data : Nat) (s t : State), exec (.endStream data) s = .next t →
    t.AS = s.AS ∧ t.STG = s.STG ∧ t.CNT = s.CNT ∧ t.MRK = s.MRK ∧ t.tables = s.tables ∧ t.inputs = s.inputs ∧
    (s.ODD = false → t.ODD = false ∧ t.OUT = s.OUT ∧ t.answers = s.answers ∧ t.offered = s.offered) ∧
    (s.ACT = false → t = { s with FLT := t.FLT })

/-- RESERVED changes nothing but `FLT`. -/
def Obligations.FrameOfReserved : Prop :=
  ∀ (data : Nat) (s t : State), exec (.reserved data) s = .next t → t = { s with FLT := t.FLT }

/-- `AS` is written by START and SAMPLE only: an accepted START writes 0, a SAMPLE that runs writes the new state of `ENCODE`, and
everything else leaves it. It is read by SAMPLE only: any other command acts alike in two states that differ in `AS`, and so
leaves each its own `AS` but where it opens a stream (10_state.md R11). -/
def Obligations.AdaptationStateAccess : Prop :=
  (∀ (i : Instr) (s t : State), exec i s = .next t →
    t.AS =
      match i with
      | .reserved _ => s.AS
      | .start rate =>
        if s.FLT = 0 ∧ s.ACT = false ∧ rate ∈ [5000, 6000, 8000] ∧ s.answerAt 0 = .ok then 0 else s.AS
      | .sample value =>
        if s.FLT = 0 ∧ s.ACT = true then (encodeSample s.tables value s.AS.toNat).2 else s.AS
      | .endStream _ => s.AS) ∧
  (∀ (i : Instr) (s t : State) (a : Nibble), (∀ value, i ≠ .sample value) → exec i s = .next t →
    exec i { s with AS := a } = .next { t with AS := if s.ACT = false ∧ t.ACT = true then 0 else a })

/-- A stale staging register is never read: while `ODD = 0` every command acts alike whatever `STG` holds. Where it writes `STG`,
which is where it holds a first nibble, it writes the same value; elsewhere `STG` keeps what it held (10_state.md R12). -/
def Obligations.StaleStagingIsUnread : Prop :=
  ∀ (i : Instr) (s t : State) (v : Byte), s.ODD = false → exec i s = .next t →
    exec i { s with STG := v } = .next { t with STG := if t.ODD = true then t.STG else v }

/-! ## Invariants -/

/-- Both invariants hold of the state after reset. -/
def Obligations.ResetMeetsTheInvariants : Prop :=
  State.reset.Inv ∧ State.reset.Framed

/-- Every step from every state that meets the register invariants of 10_state.md R24 (marked derived there) keeps them, for
every command word, reset, table and sink answer. -/
def Obligations.StepKeepsRegisterInvariants : Prop :=
  ∀ s t : State, s.Inv → step s = .next t → t.Inv

/-- The framing of streams is kept by every step, for every word, reset, table and sink answer (R13, R58, R93, R96; for streams
cut at any point). First, a framed state stays framed. Second, from where to where: a step that opens a stream leaves it framed
with the history of that moment before it and no data byte; and a step inside a stream that stays open and fault-free keeps the
SAME history before it and extends the SAME data bytes, by one byte where the step completes a pair and by none elsewhere. So
the 256 of every marker are counted from where the stream began. -/
def Obligations.StepKeepsStreamFraming : Prop :=
  (∀ s t : State, s.Framed → step s = .next t → t.Framed) ∧
  (∀ s t : State, step s = .next t → t.FLT = 0 → t.ACT = true →
    (s.ACT = false → t.FramedBy s.OUT []) ∧
    (s.ACT = true → ∀ before data, s.FramedBy before data →
      ∃ new, t.FramedBy before (data ++ new) ∧
        new.length = if s.ODD = true ∧ t.ODD = false then 1 else 0))

/-! ## A whole stream (41_packer.md section 7, whose rules the spec marks as derived)

`startsStream` holds the section's premises. The statements hold for every pair of tables, every sample sequence, every
earlier history and whatever inputs follow. -/

/-- R106: the commands of a stream append exactly the bytes of `pack_stream` and leave the block idle before the inputs that
follow. -/
def Obligations.StreamAppendsPackedBytes : Prop :=
  ∀ (s : State) (rate : BitVec 16) (m : Byte) (samples : List (BitVec 16)) (endData : BitVec 16) (rest : List Input),
    s.startsStream rate m samples endData rest →
    ∃ t, steps (samples.length + 2) s = .next t ∧ t.OUT = s.OUT ++ packStream s.tables m samples ∧
      t.inputs = rest ∧ t.offered = s.offered + streamLength samples.length

/-- R102: the stream appends exactly `1 + ceil(n / 2) + floor(floor(n / 2) / 256)` bytes. -/
def Obligations.StreamHasItsLength : Prop :=
  ∀ (s : State) (rate : BitVec 16) (m : Byte) (samples : List (BitVec 16)) (endData : BitVec 16) (rest : List Input),
    s.startsStream rate m samples endData rest →
    ∃ t, steps (samples.length + 2) s = .next t ∧
      t.OUT.length = s.OUT.length + (1 + (samples.length + 1) / 2 + samples.length / 2 / 256)

/-- R103: the stream's bytes at offsets `257 * j` are the marker, for `j` up to `floor(floor(n / 2) / 256)`. -/
def Obligations.StreamMarkersStandEvery257Bytes : Prop :=
  ∀ (s : State) (rate : BitVec 16) (m : Byte) (samples : List (BitVec 16)) (endData : BitVec 16) (rest : List Input),
    s.startsStream rate m samples endData rest →
    ∃ t, steps (samples.length + 2) s = .next t ∧
      ∀ j ≤ samples.length / 2 / 256, t.OUT[s.OUT.length + 257 * j]? = some m

/-- R104 with R58: the `k`-th data byte stands at offset `k + 1 + floor(k / 256)` of the stream and holds the nibbles of samples
`2k` and `2k + 1`, or the last nibble above four zero bits. -/
def Obligations.StreamDataBytesHoldTheirNibbles : Prop :=
  ∀ (s : State) (rate : BitVec 16) (m : Byte) (samples : List (BitVec 16)) (endData : BitVec 16) (rest : List Input),
    s.startsStream rate m samples endData rest →
    ∃ t, steps (samples.length + 2) s = .next t ∧
      let q := nibbles s.tables 0 samples
      q.length = samples.length ∧
      ∀ k, 2 * k < samples.length →
        t.OUT[s.OUT.length + (k + 1 + k / 256)]? =
          some (q.getD (2 * k) 0 ++ (if 2 * k + 1 < samples.length then q.getD (2 * k + 1) 0 else 0b0000#4))

/-- R105: the registers after the stream. `STG` holds the nibble at the largest even index, or its old value for an empty
stream. -/
def Obligations.StreamEndState : Prop :=
  ∀ (s : State) (rate : BitVec 16) (m : Byte) (samples : List (BitVec 16)) (endData : BitVec 16) (rest : List Input),
    s.startsStream rate m samples endData rest →
    ∃ t, steps (samples.length + 2) s = .next t ∧
      t.ACT = false ∧ t.ODD = false ∧ t.FLT = 0 ∧ t.MRK = m ∧
      t.AS = stateAfter s.tables 0 samples ∧ t.CNT.toNat = samples.length / 2 % 256 ∧
      t.STG = (if samples = [] then s.STG
        else 0#4 ++ (nibbles s.tables 0 samples).getD ((samples.length - 1) / 2 * 2) 0)

/-- R100: the low nibble of the final byte of an odd-length stream is 0. -/
def Obligations.OddStreamEndsInAZeroNibble : Prop :=
  ∀ (s : State) (rate : BitVec 16) (m : Byte) (samples : List (BitVec 16)) (endData : BitVec 16) (rest : List Input),
    s.startsStream rate m samples endData rest → samples.length % 2 = 1 →
    ∃ t last, steps (samples.length + 2) s = .next t ∧ t.OUT.getLast? = some last ∧ last.extractLsb' 0 4 = 0b0000#4

/-- The prefix law of 60_exceptions.md R119 (marked derived there) and D14: for any sink, after any sequence of commands, the
output is a prefix of what the same commands give under a sink that accepts, and it is the same output unless the sink
refused a byte. Two bytes per command is the most a run can offer. -/
def Obligations.OutputIsAPrefixUnderAnySink : Prop :=
  ∀ (n : Nat) (s t t' : State) (answers : List SinkAnswer) (offered : Nat),
    (∀ x ∈ s.inputs, x ≠ .rst) → State.acceptsNext { s with answers := answers, offered := offered } (2 * n) →
    steps n s = .next t → steps n { s with answers := answers, offered := offered } = .next t' →
    t.OUT <+: t'.OUT ∧ (t.FLT = 2 ∨ t.OUT = t'.OUT)
end

