-- ==== Sys2Proof/Laws/Decode.lean ====
section
/-!
SUPPORT. The two fields of a command word, and the two operand forms.
-/

namespace Sys2Proof

@[simp] theorem opField_cmdWord (op : BitVec 2) (data : BitVec 16) : opField (cmdWord op data) = op := by
  apply BitVec.eq_of_getLsbD_eq
  intro i hi
  simp only [opField, cmdWord, BitVec.getLsbD_extractLsb']
  rw [show (op ++ data : BitVec 18).getLsbD (16 + i) = (op ++ data).getLsbD (16 + i) from rfl, BitVec.getLsbD_append]
  simp [hi]

@[simp] theorem dataField_cmdWord (op : BitVec 2) (data : BitVec 16) : dataField (cmdWord op data) = data := by
  apply BitVec.eq_of_getLsbD_eq
  intro i hi
  simp only [dataField, cmdWord, BitVec.getLsbD_extractLsb']
  rw [show (op ++ data : BitVec 18).getLsbD (0 + i) = (op ++ data).getLsbD (0 + i) from rfl, BitVec.getLsbD_append]
  simp [hi]

/-- A word is its two fields. -/
theorem cmdWord_fields (w : CmdWord) : cmdWord (opField w) (dataField w) = w := by
  apply BitVec.eq_of_getLsbD_eq
  intro i hi
  simp only [opField, dataField, cmdWord]
  rw [show ∀ (a : BitVec 2) (b : BitVec 16), (a ++ b : BitVec 18).getLsbD i = (a ++ b).getLsbD i from fun _ _ => rfl,
    BitVec.getLsbD_append]
  by_cases h : i < 16
  · simp [h]
  · have h2 : i - 16 < 2 := by omega
    simp [h, h2, show 16 + (i - 16) = i by omega]

/-- Sign extension from 16 bits is the two's complement reading of the pattern (00_scope.md R6). -/
theorem sext16_toNat (d : BitVec 16) : sext 16 d.toNat = d.toInt := by
  simp only [sext, BitVec.toInt]
  split <;> split <;> omega

theorem wellFormed_unsigned {n : Nat} (h : unsigned16 n = true) : n < 65536 := by simpa [unsigned16] using h

theorem wellFormed_signed {v : Int} (h : signed16 v = true) : -32768 ≤ v ∧ v ≤ 32767 := by
  simpa [signed16] using h

end Sys2Proof
end

