-- ==== Sys2Proof/Laws/State.lean ====
section
/-!
SUPPORT. What each register write and each sink operation leaves in each field: one lemma per field per update.
-/

namespace Sys2Proof.Machine

variable (s : State)

/-! ## `setAS` -/

@[simp] theorem setAS_AS (v : Nibble) : (s.setAS v).AS = v := rfl
@[simp] theorem setAS_STG (v : Nibble) : (s.setAS v).STG = s.STG := rfl
@[simp] theorem setAS_CNT (v : Nibble) : (s.setAS v).CNT = s.CNT := rfl
@[simp] theorem setAS_ODD (v : Nibble) : (s.setAS v).ODD = s.ODD := rfl
@[simp] theorem setAS_MRK (v : Nibble) : (s.setAS v).MRK = s.MRK := rfl
@[simp] theorem setAS_ACT (v : Nibble) : (s.setAS v).ACT = s.ACT := rfl
@[simp] theorem setAS_FLT (v : Nibble) : (s.setAS v).FLT = s.FLT := rfl
@[simp] theorem setAS_OUT (v : Nibble) : (s.setAS v).OUT = s.OUT := rfl
@[simp] theorem setAS_inputs (v : Nibble) : (s.setAS v).inputs = s.inputs := rfl
@[simp] theorem setAS_answers (v : Nibble) : (s.setAS v).answers = s.answers := rfl
@[simp] theorem setAS_offered (v : Nibble) : (s.setAS v).offered = s.offered := rfl
@[simp] theorem setAS_tables (v : Nibble) : (s.setAS v).tables = s.tables := rfl

/-! ## `setSTG` -/

@[simp] theorem setSTG_AS (v : Byte) : (s.setSTG v).AS = s.AS := rfl
@[simp] theorem setSTG_STG (v : Byte) : (s.setSTG v).STG = v := rfl
@[simp] theorem setSTG_CNT (v : Byte) : (s.setSTG v).CNT = s.CNT := rfl
@[simp] theorem setSTG_ODD (v : Byte) : (s.setSTG v).ODD = s.ODD := rfl
@[simp] theorem setSTG_MRK (v : Byte) : (s.setSTG v).MRK = s.MRK := rfl
@[simp] theorem setSTG_ACT (v : Byte) : (s.setSTG v).ACT = s.ACT := rfl
@[simp] theorem setSTG_FLT (v : Byte) : (s.setSTG v).FLT = s.FLT := rfl
@[simp] theorem setSTG_OUT (v : Byte) : (s.setSTG v).OUT = s.OUT := rfl
@[simp] theorem setSTG_inputs (v : Byte) : (s.setSTG v).inputs = s.inputs := rfl
@[simp] theorem setSTG_answers (v : Byte) : (s.setSTG v).answers = s.answers := rfl
@[simp] theorem setSTG_offered (v : Byte) : (s.setSTG v).offered = s.offered := rfl
@[simp] theorem setSTG_tables (v : Byte) : (s.setSTG v).tables = s.tables := rfl

/-! ## `setCNT` -/

@[simp] theorem setCNT_AS (v : Byte) : (s.setCNT v).AS = s.AS := rfl
@[simp] theorem setCNT_STG (v : Byte) : (s.setCNT v).STG = s.STG := rfl
@[simp] theorem setCNT_CNT (v : Byte) : (s.setCNT v).CNT = v := rfl
@[simp] theorem setCNT_ODD (v : Byte) : (s.setCNT v).ODD = s.ODD := rfl
@[simp] theorem setCNT_MRK (v : Byte) : (s.setCNT v).MRK = s.MRK := rfl
@[simp] theorem setCNT_ACT (v : Byte) : (s.setCNT v).ACT = s.ACT := rfl
@[simp] theorem setCNT_FLT (v : Byte) : (s.setCNT v).FLT = s.FLT := rfl
@[simp] theorem setCNT_OUT (v : Byte) : (s.setCNT v).OUT = s.OUT := rfl
@[simp] theorem setCNT_inputs (v : Byte) : (s.setCNT v).inputs = s.inputs := rfl
@[simp] theorem setCNT_answers (v : Byte) : (s.setCNT v).answers = s.answers := rfl
@[simp] theorem setCNT_offered (v : Byte) : (s.setCNT v).offered = s.offered := rfl
@[simp] theorem setCNT_tables (v : Byte) : (s.setCNT v).tables = s.tables := rfl

/-! ## `setODD` -/

@[simp] theorem setODD_AS (v : Bool) : (s.setODD v).AS = s.AS := rfl
@[simp] theorem setODD_STG (v : Bool) : (s.setODD v).STG = s.STG := rfl
@[simp] theorem setODD_CNT (v : Bool) : (s.setODD v).CNT = s.CNT := rfl
@[simp] theorem setODD_ODD (v : Bool) : (s.setODD v).ODD = v := rfl
@[simp] theorem setODD_MRK (v : Bool) : (s.setODD v).MRK = s.MRK := rfl
@[simp] theorem setODD_ACT (v : Bool) : (s.setODD v).ACT = s.ACT := rfl
@[simp] theorem setODD_FLT (v : Bool) : (s.setODD v).FLT = s.FLT := rfl
@[simp] theorem setODD_OUT (v : Bool) : (s.setODD v).OUT = s.OUT := rfl
@[simp] theorem setODD_inputs (v : Bool) : (s.setODD v).inputs = s.inputs := rfl
@[simp] theorem setODD_answers (v : Bool) : (s.setODD v).answers = s.answers := rfl
@[simp] theorem setODD_offered (v : Bool) : (s.setODD v).offered = s.offered := rfl
@[simp] theorem setODD_tables (v : Bool) : (s.setODD v).tables = s.tables := rfl

/-! ## `setMRK` -/

@[simp] theorem setMRK_AS (v : Byte) : (s.setMRK v).AS = s.AS := rfl
@[simp] theorem setMRK_STG (v : Byte) : (s.setMRK v).STG = s.STG := rfl
@[simp] theorem setMRK_CNT (v : Byte) : (s.setMRK v).CNT = s.CNT := rfl
@[simp] theorem setMRK_ODD (v : Byte) : (s.setMRK v).ODD = s.ODD := rfl
@[simp] theorem setMRK_MRK (v : Byte) : (s.setMRK v).MRK = v := rfl
@[simp] theorem setMRK_ACT (v : Byte) : (s.setMRK v).ACT = s.ACT := rfl
@[simp] theorem setMRK_FLT (v : Byte) : (s.setMRK v).FLT = s.FLT := rfl
@[simp] theorem setMRK_OUT (v : Byte) : (s.setMRK v).OUT = s.OUT := rfl
@[simp] theorem setMRK_inputs (v : Byte) : (s.setMRK v).inputs = s.inputs := rfl
@[simp] theorem setMRK_answers (v : Byte) : (s.setMRK v).answers = s.answers := rfl
@[simp] theorem setMRK_offered (v : Byte) : (s.setMRK v).offered = s.offered := rfl
@[simp] theorem setMRK_tables (v : Byte) : (s.setMRK v).tables = s.tables := rfl

/-! ## `setACT` -/

@[simp] theorem setACT_AS (v : Bool) : (s.setACT v).AS = s.AS := rfl
@[simp] theorem setACT_STG (v : Bool) : (s.setACT v).STG = s.STG := rfl
@[simp] theorem setACT_CNT (v : Bool) : (s.setACT v).CNT = s.CNT := rfl
@[simp] theorem setACT_ODD (v : Bool) : (s.setACT v).ODD = s.ODD := rfl
@[simp] theorem setACT_MRK (v : Bool) : (s.setACT v).MRK = s.MRK := rfl
@[simp] theorem setACT_ACT (v : Bool) : (s.setACT v).ACT = v := rfl
@[simp] theorem setACT_FLT (v : Bool) : (s.setACT v).FLT = s.FLT := rfl
@[simp] theorem setACT_OUT (v : Bool) : (s.setACT v).OUT = s.OUT := rfl
@[simp] theorem setACT_inputs (v : Bool) : (s.setACT v).inputs = s.inputs := rfl
@[simp] theorem setACT_answers (v : Bool) : (s.setACT v).answers = s.answers := rfl
@[simp] theorem setACT_offered (v : Bool) : (s.setACT v).offered = s.offered := rfl
@[simp] theorem setACT_tables (v : Bool) : (s.setACT v).tables = s.tables := rfl

/-! ## `setFLT` -/

@[simp] theorem setFLT_AS (v : FaultCode) : (s.setFLT v).AS = s.AS := rfl
@[simp] theorem setFLT_STG (v : FaultCode) : (s.setFLT v).STG = s.STG := rfl
@[simp] theorem setFLT_CNT (v : FaultCode) : (s.setFLT v).CNT = s.CNT := rfl
@[simp] theorem setFLT_ODD (v : FaultCode) : (s.setFLT v).ODD = s.ODD := rfl
@[simp] theorem setFLT_MRK (v : FaultCode) : (s.setFLT v).MRK = s.MRK := rfl
@[simp] theorem setFLT_ACT (v : FaultCode) : (s.setFLT v).ACT = s.ACT := rfl
@[simp] theorem setFLT_FLT (v : FaultCode) : (s.setFLT v).FLT = v := rfl
@[simp] theorem setFLT_OUT (v : FaultCode) : (s.setFLT v).OUT = s.OUT := rfl
@[simp] theorem setFLT_inputs (v : FaultCode) : (s.setFLT v).inputs = s.inputs := rfl
@[simp] theorem setFLT_answers (v : FaultCode) : (s.setFLT v).answers = s.answers := rfl
@[simp] theorem setFLT_offered (v : FaultCode) : (s.setFLT v).offered = s.offered := rfl
@[simp] theorem setFLT_tables (v : FaultCode) : (s.setFLT v).tables = s.tables := rfl

/-! ## `consumeAnswer` -/

@[simp] theorem consumeAnswer_AS : (s.consumeAnswer).AS = s.AS := rfl
@[simp] theorem consumeAnswer_STG : (s.consumeAnswer).STG = s.STG := rfl
@[simp] theorem consumeAnswer_CNT : (s.consumeAnswer).CNT = s.CNT := rfl
@[simp] theorem consumeAnswer_ODD : (s.consumeAnswer).ODD = s.ODD := rfl
@[simp] theorem consumeAnswer_MRK : (s.consumeAnswer).MRK = s.MRK := rfl
@[simp] theorem consumeAnswer_ACT : (s.consumeAnswer).ACT = s.ACT := rfl
@[simp] theorem consumeAnswer_FLT : (s.consumeAnswer).FLT = s.FLT := rfl
@[simp] theorem consumeAnswer_OUT : (s.consumeAnswer).OUT = s.OUT := rfl
@[simp] theorem consumeAnswer_inputs : (s.consumeAnswer).inputs = s.inputs := rfl
@[simp] theorem consumeAnswer_answers : (s.consumeAnswer).answers = s.answers.tail := rfl
@[simp] theorem consumeAnswer_offered : (s.consumeAnswer).offered = s.offered + 1 := rfl
@[simp] theorem consumeAnswer_tables : (s.consumeAnswer).tables = s.tables := rfl

/-! ## `appendOut` -/

@[simp] theorem appendOut_AS (b : Byte) : (s.appendOut b).AS = s.AS := rfl
@[simp] theorem appendOut_STG (b : Byte) : (s.appendOut b).STG = s.STG := rfl
@[simp] theorem appendOut_CNT (b : Byte) : (s.appendOut b).CNT = s.CNT := rfl
@[simp] theorem appendOut_ODD (b : Byte) : (s.appendOut b).ODD = s.ODD := rfl
@[simp] theorem appendOut_MRK (b : Byte) : (s.appendOut b).MRK = s.MRK := rfl
@[simp] theorem appendOut_ACT (b : Byte) : (s.appendOut b).ACT = s.ACT := rfl
@[simp] theorem appendOut_FLT (b : Byte) : (s.appendOut b).FLT = s.FLT := rfl
@[simp] theorem appendOut_OUT (b : Byte) : (s.appendOut b).OUT = s.OUT ++ [b] := rfl
@[simp] theorem appendOut_inputs (b : Byte) : (s.appendOut b).inputs = s.inputs := rfl
@[simp] theorem appendOut_answers (b : Byte) : (s.appendOut b).answers = s.answers := rfl
@[simp] theorem appendOut_offered (b : Byte) : (s.appendOut b).offered = s.offered := rfl
@[simp] theorem appendOut_tables (b : Byte) : (s.appendOut b).tables = s.tables := rfl

/-! ## Answers still to come -/

/-- The sink's answers move up by one when one is used. -/
@[simp] theorem consumeAnswer_answerAt (k : Nat) : s.consumeAnswer.answerAt k = s.answerAt (k + 1) := by
  simp [State.answerAt, State.consumeAnswer, List.getD_eq_getElem?_getD, Nat.add_comm, Nat.add_left_comm]

@[simp] theorem setAS_answerAt (v : Nibble) (k : Nat) : (s.setAS v).answerAt k = s.answerAt k := rfl
@[simp] theorem setSTG_answerAt (v : Byte) (k : Nat) : (s.setSTG v).answerAt k = s.answerAt k := rfl
@[simp] theorem setCNT_answerAt (v : Byte) (k : Nat) : (s.setCNT v).answerAt k = s.answerAt k := rfl
@[simp] theorem setODD_answerAt (v : Bool) (k : Nat) : (s.setODD v).answerAt k = s.answerAt k := rfl
@[simp] theorem setMRK_answerAt (v : Byte) (k : Nat) : (s.setMRK v).answerAt k = s.answerAt k := rfl
@[simp] theorem setACT_answerAt (v : Bool) (k : Nat) : (s.setACT v).answerAt k = s.answerAt k := rfl
@[simp] theorem setFLT_answerAt (v : FaultCode) (k : Nat) : (s.setFLT v).answerAt k = s.answerAt k := rfl
@[simp] theorem appendOut_answerAt (b : Byte) (k : Nat) : (s.appendOut b).answerAt k = s.answerAt k := rfl

/-! ## The two conditions -/

@[simp] theorem setAS_faulted (v : Nibble) : (s.setAS v).faulted = s.faulted := rfl
@[simp] theorem setAS_counterWrapped (v : Nibble) : (s.setAS v).counterWrapped = s.counterWrapped := rfl
@[simp] theorem setSTG_faulted (v : Byte) : (s.setSTG v).faulted = s.faulted := rfl
@[simp] theorem setSTG_counterWrapped (v : Byte) : (s.setSTG v).counterWrapped = s.counterWrapped := rfl
@[simp] theorem setCNT_faulted (v : Byte) : (s.setCNT v).faulted = s.faulted := rfl
@[simp] theorem setODD_faulted (v : Bool) : (s.setODD v).faulted = s.faulted := rfl
@[simp] theorem setODD_counterWrapped (v : Bool) : (s.setODD v).counterWrapped = s.counterWrapped := rfl
@[simp] theorem setMRK_faulted (v : Byte) : (s.setMRK v).faulted = s.faulted := rfl
@[simp] theorem setMRK_counterWrapped (v : Byte) : (s.setMRK v).counterWrapped = s.counterWrapped := rfl
@[simp] theorem setACT_faulted (v : Bool) : (s.setACT v).faulted = s.faulted := rfl
@[simp] theorem setACT_counterWrapped (v : Bool) : (s.setACT v).counterWrapped = s.counterWrapped := rfl
@[simp] theorem setFLT_counterWrapped (v : FaultCode) : (s.setFLT v).counterWrapped = s.counterWrapped := rfl
@[simp] theorem consumeAnswer_faulted : (s.consumeAnswer).faulted = s.faulted := rfl
@[simp] theorem consumeAnswer_counterWrapped : (s.consumeAnswer).counterWrapped = s.counterWrapped := rfl
@[simp] theorem appendOut_faulted (b : Byte) : (s.appendOut b).faulted = s.faulted := rfl
@[simp] theorem appendOut_counterWrapped (b : Byte) : (s.appendOut b).counterWrapped = s.counterWrapped := rfl
@[simp] theorem setFLT_faulted (v : FaultCode) : (s.setFLT v).faulted = (v != 0) := rfl
@[simp] theorem setCNT_counterWrapped (v : Byte) : (s.setCNT v).counterWrapped = (v == 0) := rfl

end Sys2Proof.Machine
end

