-- ==== Sys2Proof/Laws/Ops.lean ====
section
/-!
SUPPORT. What each shared operation can do: one equation per case, and one inversion lemma per operation.
-/

namespace Sys2Proof.Machine

variable {s t : State} {b : Byte} {rest : State → Result}

theorem faulted_eq_true : s.faulted = true ↔ s.FLT ≠ 0 := by simp [State.faulted]

theorem faulted_eq_false : s.faulted = false ↔ s.FLT = 0 := by simp [State.faulted]

theorem counterWrapped_eq_true : s.counterWrapped = true ↔ s.CNT = 0 := by simp [State.counterWrapped]

theorem answerAt_ok_or_fail (s : State) (k : Nat) : s.answerAt k = .ok ∨ s.answerAt k = .fail := by
  cases s.answerAt k <;> simp

theorem raise_eq (f : BlockFault) (s : State) : raise f s = .next (s.setFLT f.code) := rfl

theorem unlessFaulted_of_fault (h : s.FLT ≠ 0) (r : Result) : unlessFaulted s r = .next s := by
  simp [unlessFaulted, faulted_eq_true.mpr h]

theorem unlessFaulted_of_ok (h : s.FLT = 0) (r : Result) : unlessFaulted s r = r := by
  simp [unlessFaulted, faulted_eq_false.mpr h]

/-- A command that goes on, or is ignored, after the fault check. -/
theorem unlessFaulted_next {r : Result} (h : unlessFaulted s r = .next t) :
    (s.FLT ≠ 0 ∧ t = s) ∨ (s.FLT = 0 ∧ r = .next t) := by
  by_cases hf : s.FLT = 0
  · exact .inr ⟨hf, by rwa [unlessFaulted_of_ok hf] at h⟩
  · rw [unlessFaulted_of_fault hf] at h
    exact .inl ⟨hf, (Host.Outcome.next.inj h).symm⟩

theorem emitOrFault_of_ok (h : s.answerAt 0 = .ok) : emitOrFault b s rest = rest (s.consumeAnswer.appendOut b) := by
  simp [emitOrFault, emit, h]

theorem emitOrFault_of_fail (h : s.answerAt 0 = .fail) :
    emitOrFault b s rest = .next (s.consumeAnswer.setFLT 2) := by
  simp [emitOrFault, emit, h, raise_eq, BlockFault.code]

/-- An emission is accepted and the command goes on, or is refused and the command ends with SinkWriteFailure. -/
theorem emitOrFault_next (h : emitOrFault b s rest = .next t) :
    (s.answerAt 0 = .ok ∧ rest (s.consumeAnswer.appendOut b) = .next t) ∨
    (s.answerAt 0 = .fail ∧ t = s.consumeAnswer.setFLT 2) := by
  rcases answerAt_ok_or_fail s 0 with ha | ha
  · exact .inl ⟨ha, by rwa [emitOrFault_of_ok ha] at h⟩
  · rw [emitOrFault_of_fail ha] at h
    exact .inr ⟨ha, (Host.Outcome.next.inj h).symm⟩

/-- Power-on reset, register by register; what is no register is kept (70_reset_and_hazards.md R130, R133). -/
theorem powerOnReset_eq (s : State) :
    powerOnReset s =
      { s with AS := 0, STG := 0x00, CNT := 0, ODD := false, MRK := 0x00, ACT := false, FLT := 0 } := rfl

/-- `CNT + 1` wraps to 0 exactly from 255 (10_state.md R13). -/
theorem succ_eq_zero_iff (c : Byte) : c + 1 = 0 ↔ c = 255 := by bv_omega

/-- The packed byte holds the lower half of the staging register above and the new nibble below, whatever the staging register's
upper half is. -/
theorem packPair_eq_append (stg : Byte) (nib : Nibble) : packPair stg nib = stg.extractLsb' 0 4 ++ nib := by
  revert stg nib; decide +revert

end Sys2Proof.Machine
end

