-- ==== Sys2Proof/Laws/PerInstr.lean ====
section
/-!
SUPPORT. What holds of every command as syntax: its word lies in its own row of spec/opcode_table.json.
-/

namespace Sys2Proof.Laws.RowOfWord

/-- The `match` value of the command's row (30_encoding.md R52). -/
def rowMatch : Instr → CmdWord
  | .reserved _  => 0x00000#18
  | .start _     => 0x10000#18
  | .sample _    => 0x20000#18
  | .endStream _ => 0x30000#18

/-- The command's word meets its row's match under the table's mask 0x30000. -/
def Statement (i : Instr) : Prop := encode i &&& 0x30000#18 = rowMatch i

/-- The mask keeps the `op` field of a word and clears its `data`. -/
theorem mask_cmdWord (op : BitVec 2) (data : BitVec 16) : cmdWord op data &&& 0x30000#18 = cmdWord op 0#16 := by
  have hm : (0x30000#18 : CmdWord) = 0b11#2 ++ 0#16 := by decide
  have ho : op &&& 0b11#2 = op := by revert op; decide
  rw [hm]
  exact (BitVec.and_append (x₁ := op) (x₂ := 0b11#2) (y₁ := data) (y₂ := 0#16)).trans (by simp [ho, cmdWord])

theorem reserved (data : Nat) : Statement (.reserved data) := mask_cmdWord _ _

theorem start (rate : Nat) : Statement (.start rate) := mask_cmdWord _ _

theorem sample (value : Int) : Statement (.sample value) := mask_cmdWord _ _

theorem endStream (data : Nat) : Statement (.endStream data) := mask_cmdWord _ _

end Sys2Proof.Laws.RowOfWord
end

