-- ==== Sys2Proof/Laws/Predictor.lean ====
section
/-!
SUPPORT. The predictor's operations as arithmetic on exact integers.
-/

namespace Sys2Proof.Machine

theorem asr7_eq (v : Int) : asr v 7 = v / 128 := by
  simp [asr, Int.fdiv_eq_ediv]

theorem clamp4_int (v : Int) : (clamp4 v).int = max 0 (min 15 v) := by
  simp only [clamp4, Nibble.int]
  split
  · simp; omega
  · split
    · simp; omega
    · simp [BitVec.toNat_ofInt]; omega

/-- A nibble read as an integer passes the clamp unchanged: step 2 changes nothing for a 4-bit state (R68). -/
theorem clamp4_of_nibble (n : Nibble) : clamp4 n.int = n := by
  revert n; decide

/-- Step 1 yields the value congruent to `asr(s, 7)` modulo 256 that a signed byte holds (R66). -/
theorem quantise_eq (v : Int) : quantise v = (v / 128 + 128) % 256 - 128 := by
  simp only [quantise, asr7_eq, sext]
  split <;> omega

theorem outputNibble_toNat (t : Tables) (ns c : Nibble) :
    ((outputNibble t ns c).toNat : Int) = (stepRom t ns c - c.int) % 16 := by
  simp [outputNibble, BitVec.toNat_ofInt]; omega

end Sys2Proof.Machine
end

