-- ==== Sys2Proof/Tests/Slice0.lean ====
section
/-!
SUPPORT. Tests of the model. Expected values are the vectors of 95_test_vectors.md (named K, F, Q, EA, P there) and the words
of 30_encoding.md; none is the model's own answer. The second half shows, for each statement with hypotheses, a state and
operands that meet them.
-/

namespace Sys2Proof.Tests

open Sys2Proof Sys2Proof.Machine

/-! ## Form of commands: one ill-formed term for each check -/

theorem test_reserved_too_wide : (Instr.reserved 65536).wellFormed = false := by decide
theorem test_rate_too_wide : (Instr.start 65536).wellFormed = false := by decide
theorem test_sample_too_high : (Instr.sample 32768).wellFormed = false := by decide
theorem test_sample_too_low : (Instr.sample (-32769)).wellFormed = false := by decide
theorem test_end_too_wide : (Instr.endStream 65536).wellFormed = false := by decide
theorem test_bounds_well_formed :
    (Instr.sample (-32768)).wellFormed = true ∧ (Instr.sample 32767).wellFormed = true ∧
    (Instr.start 65535).wellFormed = true ∧ (Instr.start 11025).wellFormed = true := by decide

/-! ## Words written out from 30_encoding.md R46, R47, R48, R53 -/

theorem test_decode_start : decode 0b01_0001111101000000#18 = .start 8000 := by decide
theorem test_decode_sample : decode 0b10_0000001110000000#18 = .sample 896 := by decide
theorem test_decode_sample_sign : decode 0b10_1000001010000000#18 = .sample (-32128) := by decide
theorem test_decode_end : decode 0b11_1010101111001101#18 = .endStream 0xABCD := by decide
theorem test_decode_reserved : decode 0b00_1111111111111111#18 = .reserved 65535 := by decide
theorem test_encode_words :
    encode (.start 11025) = 0x12B11 ∧ encode (.sample (-32768)) = 0x28000 ∧ encode (.endStream 0) = 0x30000 := by decide
theorem test_too_wide_rejected : decodeTableWord 24 0x40000 = none := by decide

/-! ## The predictor: quantisation (Q vectors) and `ENCODE` (EA vectors, table set A) -/

/-- Table set A (95_test_vectors.md section 0). -/
def setA : Tables where
  stateTable := Vector.ofFn fun c => 2 * (c.val : Int) - 3
  stepTable  := Vector.ofFn fun r => Vector.ofFn fun c => 3 * (r.val : Int) + 5 * (c.val : Int) + 1

theorem test_quantise_Q9_to_Q16 :
    quantise 16383 = 127 ∧ quantise 16384 = -128 ∧ quantise 32767 = -1 ∧ quantise (-129) = -2 ∧
    quantise (-16384) = -128 ∧ quantise (-16385) = 127 := by decide
theorem test_code_Q5_to_Q21 :
    sampleCode 1919 = 14 ∧ sampleCode 1920 = 15 ∧ sampleCode 2048 = 15 ∧ sampleCode 16384 = 0 ∧
    sampleCode (-30848) = 15 ∧ sampleCode (-32128) = 5 ∧ sampleCode (-32768) = 0 := by decide
theorem test_encode_EA2 : encodeSample setA 896 4 = (2, 7) := by decide
theorem test_encode_EA5_EA6 : encodeSample setA 1920 11 = (10, 15) ∧ encodeSample setA 1920 15 = (1, 12) := by decide
theorem test_encode_EA18_EA19 : encodeSample setA 128 20 = (5, 0) ∧ encodeSample setA 128 (-5) = (5, 0) := by decide
theorem test_encode_EA22 : encodeSample setA 256 12 = (9, 0) := by decide

/-! ## One command each (K vectors), as whole states -/

/-- A state by the registers in the order of 95_test_vectors.md, over table set A, with the sink's next answers. -/
def st (as : Nibble) (stg cnt : Byte) (odd : Bool) (mrk : Byte) (act : Bool) (flt : FaultCode)
    (answers : List SinkAnswer) (out : List Byte := []) (offered : Nat := 0) : State :=
  { AS := as, STG := stg, CNT := cnt, ODD := odd, MRK := mrk, ACT := act, FLT := flt, OUT := out,
    inputs := [], answers := answers, offered := offered, tables := setA }

/-- The next state, where there is one. -/
def nextOf : Result → Option State
  | .next s    => some s
  | .fault _   => none
  | .refused _ => none

theorem test_start_K1 :
    nextOf (exec (.start 8000) (st 0 0 0 false 0 false 0 [.ok])) = some (st 0 0 0 false 0x53 true 0 [] [0x53] 1) := by decide
theorem test_start_K13 :
    nextOf (exec (.start 8000) (st 0 0x0E 3 false 0x59 false 0 [.ok])) =
      some (st 0 0x0E 0 false 0x53 true 0 [] [0x53] 1) := by decide
theorem test_sample_K5 :
    nextOf (exec (.sample 1920) (st 11 0x0E 0 true 0x53 true 0 [.ok])) =
      some (st 15 0x0E 1 false 0x53 true 0 [] [0xEA] 1) := by decide
theorem test_sample_K10 :
    nextOf (exec (.sample 896) (st 11 0x0E 255 true 0x53 true 0 [.ok, .ok])) =
      some (st 0 0x0E 0 false 0x53 true 0 [] [0xED, 0x53] 2) := by decide
theorem test_end_K7 :
    nextOf (exec (.endStream 0) (st 0 0x05 1 true 0x53 true 0 [.ok])) =
      some (st 0 0x05 1 false 0x53 false 0 [] [0x50] 1) := by decide
theorem test_end_K12 :
    nextOf (exec (.endStream 0) (st 11 0x0E 255 true 0x53 true 0 [.ok])) =
      some (st 11 0x0E 255 false 0x53 false 0 [] [0xE0] 1) := by decide

/-! ## Faults (F vectors) -/

theorem test_fault_order_F6 :
    nextOf (exec (.start 11025) (st 0 0 0 false 0x53 true 0 [.ok])) = some (st 0 0 0 false 0x53 true 3 [.ok]) := by decide
theorem test_reserved_F8 :
    nextOf (exec (.reserved 0xFFFF) (st 0 0 0 false 0x53 true 0 [])) = some (st 0 0 0 false 0x53 true 4 []) := by decide
theorem test_marker_refused_F13 :
    nextOf (exec (.sample 896) (st 11 0x0E 255 true 0x53 true 0 [.ok, .fail])) =
      some (st 0 0x0E 0 false 0x53 true 2 [] [0xED] 2) := by decide
theorem test_data_refused_F14 :
    nextOf (exec (.sample 896) (st 11 0x0E 255 true 0x53 true 0 [.fail])) =
      some (st 0 0x0E 255 true 0x53 true 2 [] [] 1) := by decide

/-! ## Steps -/

theorem test_step_reserved_word_F7 :
    (nextOf (step (State.reset.withFetchWord 24 0x00000))).map (·.FLT) = some 4 := by decide
theorem test_step_sample_outside_stream_F3 :
    (nextOf (step (State.reset.withFetchWord 24 0x20000))).map (·.FLT) = some 3 := by decide
theorem test_rst_in_a_stream :
    nextOf (step { st 11 0x0E 3 true 0x53 true 2 [.ok] [0x53] with inputs := [.rst] }) =
      some (st 0 0 0 false 0 false 0 [.ok] [0x53]) := by decide
theorem test_status_outputs : (st 0 0 0 false 0x53 true 2 []).fltPort = 2 ∧ (st 0 0 0 false 0x53 true 2 []).actPort = 1 := by
  decide

/-! ## Witnesses: the hypotheses of each statement can be met together -/

theorem witness_wellFormed : (Instr.sample (-1)).wellFormed = true ∧ (Instr.start 8000).wellFormed = true := by decide

theorem witness_opcode_rows :
    0x0FFFF#18 &&& 0x30000#18 = 0x00000#18 ∧ 0x1FFFF#18 &&& 0x30000#18 = 0x10000#18 ∧
    0x2FFFF#18 &&& 0x30000#18 = 0x20000#18 ∧ 0x3FFFF#18 &&& 0x30000#18 = 0x30000#18 := by decide

theorem witness_inputs :
    (State.reset.withFetchWord 24 0x0FFFF).FLT = 0 ∧
    (State.reset.withFetchWord 24 0x0FFFF).inputs = .command 0x0FFFF#18 :: [] ∧ State.reset.inputs = [] ∧
    ({ State.reset with inputs := [.rst] } : State).inputs = .rst :: [] := by decide

/-- A fault is cleared by a step, and the input was `rst`. -/
theorem witness_rst_clears : ∃ s t : State, step s = .next t ∧ s.FLT ≠ 0 ∧ t.FLT = 0 :=
  ⟨{ State.reset with FLT := 2, inputs := [.rst] }, _, rfl, by decide, by decide⟩

theorem witness_faulted_command :
    (st 0 0 0 false 0 false 7 []).FLT ≠ 0 ∧
    ({ st 0 0 0 false 0 false 1 [] with inputs := [.command 0x30000#18] } : State).inputs = .command 0x30000#18 :: [] := by
  decide

theorem witness_sample_range : -32768 ≤ (-32768 : Int) ∧ (-32768 : Int) ≤ 32767 := by decide

theorem witness_state_below_and_above : (-1 : Int) < 0 ∧ 15 < (16 : Int) := by decide

/-- Q19 and Q22: 0x8280 and 0x0280 agree on bits 14:7. -/
theorem witness_same_code_bits : (0x8280#16).extractLsb' 7 8 = (0x0280#16).extractLsb' 7 8 := by decide

theorem witness_bad_rates :
    (0 : Nat) ≠ 5000 ∧ (0 : Nat) ≠ 6000 ∧ (0 : Nat) ≠ 8000 ∧
    (65535#16 : BitVec 16) ≠ 5000 ∧ (65535#16 : BitVec 16) ≠ 6000 ∧ (65535#16 : BitVec 16) ≠ 8000 := by decide

/-- START, clause by clause: faulted; inside a stream; a rate that is none of the three; for each rate, the marker refused and
accepted. -/
theorem witness_start_clauses :
    (∃ s : State, s.FLT ≠ 0) ∧
    (∃ s : State, s.FLT = 0 ∧ s.ACT = true) ∧
    (∃ (rate : Nat) (s : State), s.FLT = 0 ∧ s.ACT = false ∧ rate ≠ 5000 ∧ rate ≠ 6000 ∧ rate ≠ 8000) ∧
    (∀ pair ∈ [(5000, 0x5F#8), (6000, 0x59#8), (8000, 0x53#8)], ∃ s s' : State,
      (pair.1, pair.2) ∈ [(5000, 0x5F#8), (6000, 0x59#8), (8000, 0x53#8)] ∧
      (s.FLT = 0 ∧ s.ACT = false ∧ s.answerAt 0 = .fail) ∧ (s'.FLT = 0 ∧ s'.ACT = false ∧ s'.answerAt 0 = .ok)) :=
  ⟨⟨st 0 0 0 false 0 false 1 [], by decide⟩, ⟨st 0 0 0 false 0x53 true 0 [], by decide⟩,
   ⟨11025, st 0 0 0 false 0 false 0 [], by decide⟩,
   fun pair hp => ⟨st 0 0 0 false 0 false 0 [.fail], st 0 0 0 false 0 false 0 [.ok], hp, by decide, by decide⟩⟩

/-- SAMPLE, clause by clause, the counter at the ends of its ranges (254 and 255): faulted; outside a stream; first nibble; data
byte refused; pair; pair and marker; marker refused. `ENCODE(896, 11) = (13, 0)` is vector K10. -/
theorem witness_sample_clauses :
    encodeSample setA 896 (11#4).toNat = (13, 0) ∧
    (st 11 14 0 true 0x53 true 2 []).FLT ≠ 0 ∧
    ((st 11 14 0 false 0x53 false 0 []).FLT = 0 ∧ (st 11 14 0 false 0x53 false 0 []).ACT = false) ∧
    ((st 11 14 255 false 0x53 true 0 []).FLT = 0 ∧ (st 11 14 255 false 0x53 true 0 []).ACT = true ∧
      (st 11 14 255 false 0x53 true 0 []).ODD = false) ∧
    (∃ s, s = st 11 14 255 true 0x53 true 0 [.fail] ∧
      s.FLT = 0 ∧ s.ACT = true ∧ s.ODD = true ∧ s.answerAt 0 = .fail) ∧
    (∃ s, s = st 11 14 254 true 0x53 true 0 [.ok] ∧
      s.FLT = 0 ∧ s.ACT = true ∧ s.ODD = true ∧ s.answerAt 0 = .ok ∧ s.CNT ≠ 255) ∧
    (∃ s, s = st 11 14 255 true 0x53 true 0 [.ok, .ok] ∧
      s.FLT = 0 ∧ s.ACT = true ∧ s.ODD = true ∧ s.answerAt 0 = .ok ∧ s.CNT = 255 ∧ s.answerAt 1 = .ok) ∧
    (∃ s, s = st 11 14 255 true 0x53 true 0 [.ok, .fail] ∧
      s.FLT = 0 ∧ s.ACT = true ∧ s.ODD = true ∧ s.answerAt 0 = .ok ∧ s.CNT = 255 ∧ s.answerAt 1 = .fail) :=
  ⟨by decide, by decide, by decide, by decide,
   ⟨_, rfl, by decide⟩, ⟨_, rfl, by decide⟩, ⟨_, rfl, by decide⟩, ⟨_, rfl, by decide⟩⟩

/-- END, clause by clause: faulted; outside a stream; nothing held; held and accepted; held and refused. -/
theorem witness_end_clauses :
    (st 0 5 0 true 0x53 true 2 []).FLT ≠ 0 ∧
    (∃ s, s = st 0 5 0 false 0x53 false 0 [] ∧ s.FLT = 0 ∧ s.ACT = false) ∧
    (∃ s, s = st 0 5 0 false 0x53 true 0 [] ∧ s.FLT = 0 ∧ s.ACT = true ∧ s.ODD = false) ∧
    (∃ s, s = st 0 5 0 true 0x53 true 0 [.ok] ∧ s.FLT = 0 ∧ s.ACT = true ∧ s.ODD = true ∧ s.answerAt 0 = .ok) ∧
    (∃ s, s = st 0 5 0 true 0x53 true 0 [.fail] ∧ s.FLT = 0 ∧ s.ACT = true ∧ s.ODD = true ∧ s.answerAt 0 = .fail) :=
  ⟨by decide, ⟨_, rfl, by decide⟩, ⟨_, rfl, by decide⟩, ⟨_, rfl, by decide⟩, ⟨_, rfl, by decide⟩⟩

/-- F1: the word of `START 11025` offered to an idle block. -/
theorem witness_unsupported_rate_word :
    ∃ s : State, s.FLT = 0 ∧ s.ACT = false ∧ (11025#16 : BitVec 16) ≠ 5000 ∧ (11025#16 : BitVec 16) ≠ 6000 ∧
      (11025#16 : BitVec 16) ≠ 8000 ∧ s.inputs = .command (0b01#2 ++ 11025#16) :: [] :=
  ⟨{ st 0 0 0 false 0 false 0 [] with inputs := [.command 0x12B11#18] }, by decide⟩

/-- A command of each kind that answers a next state, for the statements about a next state. -/
theorem witness_next_states :
    (∃ t, exec (.reserved 0) (st 0 0 0 false 0 false 0 []) = .next t) ∧
    (∃ t, exec (.start 8000) (st 0 0 0 false 0 false 0 [.ok, .ok]) = .next t) ∧
    (∃ t, exec (.sample 896) (st 11 0x0E 255 true 0x53 true 0 [.ok, .ok]) = .next t) ∧
    (∃ t, exec (.sample 896) (st 11 0x0E 255 false 0x53 true 0 [.ok, .ok]) = .next t) ∧
    (∃ t, exec (.endStream 0) (st 0 5 0 true 0x53 true 0 [.ok, .ok]) = .next t) ∧
    (∃ t, exec (.endStream 0) (st 0 5 0 false 0x53 true 0 [.ok, .ok]) = .next t) :=
  ⟨⟨_, rfl⟩, ⟨_, rfl⟩, ⟨_, rfl⟩, ⟨_, rfl⟩, ⟨_, rfl⟩, ⟨_, rfl⟩⟩

theorem witness_accepts_two : (st 0 5 255 true 0x53 true 0 [.ok, .ok]).acceptsNext 2 := by decide

theorem witness_not_sample : ∀ value, Instr.endStream 0 ≠ .sample value := by intro _ h; cases h

/-- An open stream with a held nibble meets the register invariants, and a step runs from it. -/
theorem witness_inv : (st 11 0x0E 255 true 0x53 true 0 []).Inv ∧ ∃ t, step (st 11 0x0E 255 true 0x53 true 0 []) = .next t :=
  ⟨by decide, _, rfl⟩

/-- The step that opens a stream: the premises of the opening clause of the framing statement, its history not empty. -/
theorem witness_framing_opens :
    ∃ s t : State, step s = .next t ∧ t.FLT = 0 ∧ t.ACT = true ∧ s.ACT = false ∧ s.OUT = [0x53] :=
  ⟨{ st 0 0 0 false 0x53 false 0 [.ok] [0x53] with inputs := [.command 0x11770#18] }, _, rfl, by decide, by decide, by decide, rfl⟩

/-- An open stream behind an earlier byte, 255 data bytes emitted, a first nibble held, and `CNT = 255`. -/
def beforeMarker : State :=
  { st 11 0x0E 255 true 0x59 true 0 [.ok, .ok] ([0x50] ++ 0x59 :: withMarkers 0x59 0 (List.replicate 255 0xED)) with
    inputs := [.command 0x20380#18] }

/-- The step that emits the 256th data byte and the marker: the premises of the framing statement's inner clause at the end of the
counter's range, and those of the invariant. -/
theorem witness_framing_wraps :
    beforeMarker.FramedBy [0x50] (List.replicate 255 0xED) ∧ beforeMarker.Framed ∧
    ∃ t, step beforeMarker = .next t ∧ t.FLT = 0 ∧ t.ACT = true ∧ beforeMarker.ACT = true ∧
      beforeMarker.ODD = true ∧ t.ODD = false :=
  have framed : beforeMarker.FramedBy [0x50] (List.replicate 255 0xED) := ⟨rfl, by rw [List.length_replicate]; rfl⟩
  ⟨framed, fun _ _ => ⟨_, _, framed⟩, _, rfl, rfl, rfl, rfl, rfl, rfl⟩

/-- The stale-register statement at a SAMPLE that holds a first nibble (K4 with a stale `STG` of 0x0F): both states write 0x0E. -/
theorem test_stale_staging_overwritten :
    (nextOf (exec (.sample 896) (st 0 0x0F 0 false 0x53 true 0 []))).map (·.STG) = some 0x0E ∧
    (nextOf (exec (.sample 896) (st 0 0x00 0 false 0x53 true 0 []))).map (·.STG) = some 0x0E := by decide

/-- Program P1 (START 8000, three samples, END) meets the premises of the stream statements; its length is odd. -/
theorem witness_stream :
    State.startsStream
      { st 0 0 0 false 0 false 0 [.ok, .ok, .ok] with inputs := streamInputs 8000 [0x0380, 0x0780, 0x0080] 0 ++ [.rst] }
      8000 0x53 [0x0380, 0x0780, 0x0080] 0 [.rst] ∧ ([0x0380, 0x0780, 0x0080] : List (BitVec 16)).length % 2 = 1 := by
  decide

/-- The bytes of P1 are those the spec prints, `53 EA 50`. -/
theorem test_packStream_P1 : packStream setA 0x53 [0x0380, 0x0780, 0x0080] = [0x53, 0xEA, 0x50] := by decide

/-- The 256th data byte is followed by a marker, the 255th is not (R58). -/
theorem test_withMarkers_wrap : withMarkers 0x53 254 [1, 2, 3] = [1, 2, 0x53, 3] := by decide

/-- A failing sink and an accepting one over the same two commands. -/
theorem witness_prefix :
    (∀ x ∈ ({ st 0 0 0 false 0 false 0 [.fail] with inputs := [.command 0x11F40#18, .command 0x30000#18] } : State).inputs,
      x ≠ .rst) ∧
    State.acceptsNext
      { st 0 0 0 false 0 false 0 [.fail] with
        inputs := [.command 0x11F40#18, .command 0x30000#18], answers := [.ok, .ok, .ok, .ok], offered := 0 } (2 * 2) ∧
    (∃ t, steps 2 { st 0 0 0 false 0 false 0 [.fail] with inputs := [.command 0x11F40#18, .command 0x30000#18] } = .next t) ∧
    ∃ t, steps 2 { st 0 0 0 false 0 false 0 [.fail] with
      inputs := [.command 0x11F40#18, .command 0x30000#18], answers := [.ok, .ok, .ok, .ok], offered := 0 } = .next t :=
  ⟨by decide, by decide, ⟨_, rfl⟩, ⟨_, rfl⟩⟩

end Sys2Proof.Tests
end

section
/-!
PROOFS. Command words (30_encoding.md): the word of a table row and its decoding, one step on a command word, the rates.
-/

namespace Sys2Proof

/-! ## A word that meets a row's match is that row's `op` over some `data` -/

/-- The table's mask 0x30000 leaves the `op` field alone, so it fixes the word up to its `data` (R45, R52). -/
theorem exists_cmdWord_of_masked {w : CmdWord} {op : BitVec 2} (h : w &&& 0x30000#18 = cmdWord op 0#16) :
    ∃ data, w = cmdWord op data := by
  have hfields : cmdWord (opField w) 0#16 = cmdWord op 0#16 := by
    rw [← h, ← Laws.RowOfWord.mask_cmdWord (opField w) (dataField w), cmdWord_fields]
  have hop : opField w = op := by simpa using congrArg opField hfields
  exact ⟨dataField w, by rw [← hop, cmdWord_fields]⟩

/-- The mask 0x0FFFF keeps the `data` of a word and clears its `op`. -/
theorem cmdWord_and_dataMask (op : BitVec 2) (data : BitVec 16) :
    cmdWord op data &&& 0x0FFFF#18 = cmdWord 0#2 data := by
  have hmask : (0x0FFFF#18 : CmdWord) = 0#2 ++ BitVec.allOnes 16 := by decide
  rw [hmask]
  exact BitVec.and_append.trans (by rw [BitVec.and_zero, BitVec.and_allOnes]; rfl)

theorem cmdWord_and_dataMask_toNat (op : BitVec 2) (data : BitVec 16) :
    (cmdWord op data &&& 0x0FFFF#18).toNat = data.toNat := by
  rw [cmdWord_and_dataMask]
  exact (BitVec.toNat_append 0#2 data).trans (by simp)

@[simp] theorem cmdWord_setWidth_data (op : BitVec 2) (data : BitVec 16) : (cmdWord op data).setWidth 16 = data :=
  BitVec.setWidth_append_eq_right

/-! ## The decoder, row by row (R49, R52) -/

@[simp] theorem decode_cmdWord_reserved (data : BitVec 16) : decode (cmdWord 0b00#2 data) = .reserved data.toNat := by
  simp [decode]

@[simp] theorem decode_cmdWord_start (data : BitVec 16) : decode (cmdWord 0b01#2 data) = .start data.toNat := by
  simp [decode]

@[simp] theorem decode_cmdWord_sample (data : BitVec 16) : decode (cmdWord 0b10#2 data) = .sample data.toInt := by
  simp [decode, sext16_toNat]

@[simp] theorem decode_cmdWord_endStream (data : BitVec 16) :
    decode (cmdWord 0b11#2 data) = .endStream data.toNat := by
  simp [decode]

/-- Settles O1: a word that meets a row's match is that row's `op` over some `data`, whose operand the decoder reads. -/
theorem opcodeMapDecoding : Obligations.OpcodeMapDecoding := by
  intro w
  refine ⟨fun h => ?reserved, fun h => ?start, fun h => ?sample, fun h => ?endStream⟩
  case reserved =>
    obtain ⟨data, rfl⟩ := exists_cmdWord_of_masked (op := 0b00#2) h
    rw [decode_cmdWord_reserved, cmdWord_and_dataMask_toNat]
  case start =>
    obtain ⟨data, rfl⟩ := exists_cmdWord_of_masked (op := 0b01#2) h
    rw [decode_cmdWord_start, cmdWord_and_dataMask_toNat]
  case sample =>
    obtain ⟨data, rfl⟩ := exists_cmdWord_of_masked (op := 0b10#2) h
    rw [decode_cmdWord_sample, cmdWord_setWidth_data]
  case endStream =>
    obtain ⟨data, rfl⟩ := exists_cmdWord_of_masked (op := 0b11#2) h
    rw [decode_cmdWord_endStream, cmdWord_and_dataMask_toNat]

end Sys2Proof

namespace Sys2Proof.Machine

/-! ## One step on a command word -/

/-- A step takes the offered word off the input and runs its command (00_scope.md R8). -/
theorem step_command_cons (s : State) (w : CmdWord) (rest : List Input) :
    step { s with inputs := .command w :: rest } = exec (decode w) { s with inputs := rest } := rfl

theorem exec_reserved_of_ok {s : State} (h : s.FLT = 0) (data : Nat) :
    exec (.reserved data) s = .next (s.setFLT 4) :=
  unlessFaulted_of_ok h _

/-- The meaning of END does not read its `data` (R48). -/
theorem exec_endStream_data (data data' : Nat) (s : State) : exec (.endStream data) s = exec (.endStream data') s := rfl

/-- Settles O6: both words decode to END, and END does not read its `data`. -/
theorem endIgnoresItsData : Obligations.EndIgnoresItsData := by
  intro s w rest h
  obtain ⟨data, rfl⟩ := exists_cmdWord_of_masked (op := 0b11#2) h
  have hcanonical : (0x30000#18 : CmdWord) = cmdWord 0b11#2 0#16 := by decide
  rw [step_command_cons, step_command_cons, hcanonical, decode_cmdWord_endStream, decode_cmdWord_endStream]
  exact exec_endStream_data _ _ _

/-- Settles O7: the word decodes to the reserved command, which only writes `FLT` in a block without a fault. -/
theorem reservedWordRaisesIllegalCommand : Obligations.ReservedWordRaisesIllegalCommand := by
  intro s w rest h hok
  obtain ⟨data, rfl⟩ := exists_cmdWord_of_masked (op := 0b00#2) h
  rw [step_command_cons, decode_cmdWord_reserved]
  exact exec_reserved_of_ok (s := { s with inputs := rest }) hok _

/-! ## The rates (R50) -/

@[simp] theorem resolve_5000 : resolve 5000 = some 0x5F := rfl
@[simp] theorem resolve_6000 : resolve 6000 = some 0x59 := rfl
@[simp] theorem resolve_8000 : resolve 8000 = some 0x53 := rfl

theorem resolve_eq_none {rate : Nat} (h5 : rate ≠ 5000) (h6 : rate ≠ 6000) (h8 : rate ≠ 8000) :
    resolve rate = none := by
  simp [resolve, h5, h6, h8]

/-- Settles O20: the three equations of `resolve`, and its last branch for every other rate. -/
theorem ratesResolveToTheirMarkers : Obligations.RatesResolveToTheirMarkers :=
  ⟨resolve_5000, resolve_6000, resolve_8000, fun _ => resolve_eq_none⟩

end Sys2Proof.Machine
end

section
/-!
PROOFS. The predictor's steps in exact integer arithmetic (40_predictor.md R65 to R73).
-/

namespace Sys2Proof.Machine

/-! ## ENCODE, stage by stage -/

/-- Steps 1 and 3: the sample, quantised to a signed byte and clamped (R66, R69). -/
theorem sampleCode_int (sample : Int) :
    (sampleCode sample).int = max 0 (min 15 ((sample / 128 + 128) % 256 - 128)) := by
  rw [sampleCode, clamp4_int, quantise_eq]

/-- Steps 2 and 4 and the added clamp: the old state is clamped before the subtraction, the difference after it
(R68, R70, R71). -/
theorem nextState_int (t : Tables) (state : Int) (c : Nibble) :
    (nextState t state c).int = max 0 (min 15 (stateRom t c - max 0 (min 15 state))) := by
  rw [nextState, clamp4_int, clamp4_int]

/-- Settles O16: the witnesses are the model's own code, new state and nibble, and each stage has its equation. -/
theorem encodeFollowsItsSteps : Obligations.EncodeFollowsItsSteps :=
  fun t sample state =>
    ⟨_, _, sampleCode sample, rfl, sampleCode_int sample, nextState_int t state _, outputNibble_toNat t _ _⟩

/-! ## Step 1: the shift and the narrowing (R66) -/

/-- `asr(s, 7)` is the floor of `s / 128`. -/
theorem asr7_floor (sample : Int) : 128 * asr sample 7 ≤ sample ∧ sample < 128 * asr sample 7 + 128 := by
  rw [asr7_eq]; omega

/-- A 16-bit sample shifts to a 9-bit value. -/
theorem asr7_mem_range {sample : Int} (hlo : -32768 ≤ sample) (hhi : sample ≤ 32767) :
    -256 ≤ asr sample 7 ∧ asr sample 7 ≤ 255 := by
  rw [asr7_eq]; omega

/-- The narrowed value fits a signed byte, whatever the sample. -/
theorem quantise_mem_range (sample : Int) : -128 ≤ quantise sample ∧ quantise sample ≤ 127 := by
  rw [quantise_eq]; omega

/-- The narrowing wraps: it changes the shifted sample by a multiple of 256. -/
theorem quantise_sub_asr7_emod (sample : Int) : (quantise sample - asr sample 7) % 256 = 0 := by
  rw [quantise_eq, asr7_eq]; omega

/-- Settles O15: the shift is a floor division into 9 bits, and the narrowing keeps its value modulo 256. -/
theorem quantiseTruncatesToEightBits : Obligations.QuantiseTruncatesToEightBits :=
  fun sample hlo hhi =>
    ⟨asr7_floor sample, asr7_mem_range hlo hhi, quantise_mem_range sample, quantise_sub_asr7_emod sample⟩

end Sys2Proof.Machine
end

section
/-!
PROOFS. The packer's commands (41_packer.md): one equation per case of each command, what each command can do, and the rules
R86, R89, R93, R99 and R101 from these.
-/

namespace Sys2Proof.Machine

variable {s t : State}

/-! ## The states after the accepted bytes, and the packed bytes -/

/-- The register writes of START after its marker is accepted (R86). -/
abbrev State.openStream (s : State) (m : Byte) : State :=
  ((((s.setMRK m).setAS 0).setCNT 0).setODD false).setACT true

/-- The byte of a pair accepted and counted (R92, R93): the state in which the marker is tried if the counter wrapped. -/
abbrev State.countPair (s : State) (nib : Nibble) : State :=
  ((s.consumeAnswer.appendOut (packPair s.STG nib)).setCNT (s.CNT + 1)).setODD false

/-- The padded byte of END is a packed pair whose second nibble is 0. -/
theorem padSingle_eq_append (stg : Byte) : padSingle stg = stg.extractLsb' 0 4 ++ 0#4 := by
  rw [← packPair_eq_append]
  simp [packPair, padSingle]

theorem setWidth_eq_zero_append (nib : Nibble) : nib.setWidth 8 = 0#4 ++ nib := by
  revert nib; decide

/-! ## The rates -/

theorem resolve_eq_none_iff {rate : Nat} : resolve rate = none ↔ rate ∉ [5000, 6000, 8000] := by
  simp only [List.mem_cons, List.not_mem_nil, or_false]
  constructor
  · rintro hnone (rfl | rfl | rfl)
    · cases resolve_5000.symm.trans hnone
    · cases resolve_6000.symm.trans hnone
    · cases resolve_8000.symm.trans hnone
  · intro hother
    push Not at hother
    obtain ⟨h5, h6, h8⟩ := hother
    exact resolve_eq_none h5 h6 h8

theorem resolve_eq_some_of_mem {rate : Nat} {m : Byte}
    (h : (rate, m) ∈ [(5000, 0x5F#8), (6000, 0x59#8), (8000, 0x53#8)]) : resolve rate = some m := by
  simp only [List.mem_cons, Prod.mk.injEq, List.not_mem_nil, or_false] at h
  obtain ⟨rfl, rfl⟩ | ⟨rfl, rfl⟩ | ⟨rfl, rfl⟩ := h
  · exact resolve_5000
  · exact resolve_6000
  · exact resolve_8000

/-! ## Each command, case by case -/

theorem exec_of_fault (h : s.FLT ≠ 0) (i : Instr) : exec i s = .next s := by
  cases i <;> exact unlessFaulted_of_fault h _

theorem exec_start_of_act (hflt : s.FLT = 0) (hact : s.ACT = true) (rate : Nat) :
    exec (.start rate) s = .next (s.setFLT 3) :=
  (unlessFaulted_of_ok hflt _).trans (if_pos hact)

theorem exec_start_of_resolve_none (hflt : s.FLT = 0) (hact : s.ACT = false) {rate : Nat} (hrate : resolve rate = none) :
    exec (.start rate) s = .next (s.setFLT 1) := by
  simp [exec, execStart, unlessFaulted_of_ok hflt, hact, hrate, raise_eq, BlockFault.code]

theorem exec_start_of_resolve_some (hflt : s.FLT = 0) (hact : s.ACT = false) {rate : Nat} {m : Byte}
    (hrate : resolve rate = some m) :
    exec (.start rate) s = emitOrFault m s fun s => .next (s.openStream m) := by
  simp [exec, execStart, unlessFaulted_of_ok hflt, hact, hrate, State.openStream]

theorem exec_sample_of_not_act (hflt : s.FLT = 0) (hact : s.ACT = false) (value : Int) :
    exec (.sample value) s = .next (s.setFLT 3) :=
  (unlessFaulted_of_ok hflt _).trans (if_pos (by simp [hact]))

theorem exec_sample_of_not_odd (hflt : s.FLT = 0) (hact : s.ACT = true) (hodd : s.ODD = false) (value : Int) :
    exec (.sample value) s =
      holdNibble (encodeSample s.tables value s.AS.toNat).1 (s.setAS (encodeSample s.tables value s.AS.toNat).2) := by
  simp [exec, execSample, unlessFaulted_of_ok hflt, hact, hodd, Nibble.int]

theorem exec_sample_of_odd (hflt : s.FLT = 0) (hact : s.ACT = true) (hodd : s.ODD = true) (value : Int) :
    exec (.sample value) s =
      pairNibble (encodeSample s.tables value s.AS.toNat).1 (s.setAS (encodeSample s.tables value s.AS.toNat).2) := by
  simp [exec, execSample, unlessFaulted_of_ok hflt, hact, hodd, Nibble.int]

theorem holdNibble_eq (nib : Nibble) (s : State) :
    holdNibble nib s = .next ((s.setSTG (0#4 ++ nib)).setODD true) := by
  rw [holdNibble, setWidth_eq_zero_append]

theorem pairNibble_of_fail (h : s.answerAt 0 = .fail) (nib : Nibble) :
    pairNibble nib s = .next (s.consumeAnswer.setFLT 2) :=
  emitOrFault_of_fail h

/-- Once the byte is accepted, the marker is tried exactly when the counter stood at 255 (R96). -/
theorem pairNibble_of_ok (h : s.answerAt 0 = .ok) (nib : Nibble) :
    pairNibble nib s =
      if s.CNT = 255 then emitOrFault s.MRK (s.countPair nib) .next else .next (s.countPair nib) := by
  simp only [pairNibble, emitOrFault_of_ok h, counterWrapped_eq_true, setODD_CNT, setCNT_CNT, consumeAnswer_CNT,
    appendOut_CNT, succ_eq_zero_iff]
  rfl

theorem exec_endStream_of_not_act (hflt : s.FLT = 0) (hact : s.ACT = false) (data : Nat) :
    exec (.endStream data) s = .next (s.setFLT 3) :=
  (unlessFaulted_of_ok hflt _).trans (if_pos (by simp [hact]))

theorem exec_endStream_of_not_odd (hflt : s.FLT = 0) (hact : s.ACT = true) (hodd : s.ODD = false) (data : Nat) :
    exec (.endStream data) s = .next (s.setACT false) := by
  simp [exec, execEndStream, unlessFaulted_of_ok hflt, hact, hodd]

theorem exec_endStream_of_odd (hflt : s.FLT = 0) (hact : s.ACT = true) (hodd : s.ODD = true) (data : Nat) :
    exec (.endStream data) s =
      emitOrFault (padSingle s.STG) s fun s => .next ((s.setODD false).setACT false) := by
  simp [exec, execEndStream, unlessFaulted_of_ok hflt, hact, hodd]

/-! ## The rules of the commands -/

/-- Settles O22: the check of `FLT`, and the one write after it. -/
theorem reservedCommandRule : Obligations.ReservedCommandRule :=
  fun data _ => ⟨fun hflt => exec_of_fault hflt _, fun hflt => exec_reserved_of_ok hflt data⟩

/-- Settles O23: the equations of START, the marker's emission split by the sink's answer. -/
theorem startCommandRule : Obligations.StartCommandRule := by
  intro rate s
  refine ⟨fun hflt => exec_of_fault hflt _, fun hflt hact => exec_start_of_act hflt hact rate,
    fun hflt hact h5 h6 h8 => exec_start_of_resolve_none hflt hact (resolve_eq_none h5 h6 h8),
    fun m hmem hflt hact => ?_⟩
  rw [exec_start_of_resolve_some hflt hact (resolve_eq_some_of_mem hmem)]
  exact ⟨emitOrFault_of_fail, emitOrFault_of_ok⟩

/-- Settles O24: the first nibble is held; the second is paired, by the answer to its byte, the counter, and the answer to
the marker. -/
theorem sampleCommandRule : Obligations.SampleCommandRule := by
  intro value s nib ns henc
  have hfirst (hflt : s.FLT = 0) (hact : s.ACT = true) (hodd : s.ODD = false) :
      exec (.sample value) s = holdNibble nib (s.setAS ns) := by
    rw [exec_sample_of_not_odd hflt hact hodd, henc]
  have hsecond (hflt : s.FLT = 0) (hact : s.ACT = true) (hodd : s.ODD = true) :
      exec (.sample value) s = pairNibble nib (s.setAS ns) := by
    rw [exec_sample_of_odd hflt hact hodd, henc]
  refine ⟨fun hflt => exec_of_fault hflt _, fun hflt hact => exec_sample_of_not_act hflt hact value,
    fun hflt hact hodd => ?held, fun hflt hact hodd hbyte => ?byteRefused,
    fun hflt hact hodd hbyte hcnt => ?paired, fun hflt hact hodd hbyte hcnt hmark => ?marked,
    fun hflt hact hodd hbyte hcnt hmark => ?markRefused⟩
  case held => rw [hfirst hflt hact hodd, holdNibble_eq]; rfl
  case byteRefused => rw [hsecond hflt hact hodd, pairNibble_of_fail (by simpa using hbyte)]; rfl
  all_goals rw [hsecond hflt hact hodd, pairNibble_of_ok (by simpa using hbyte), ← packPair_eq_append]
  case paired => rw [if_neg (by simpa using hcnt)]; rfl
  case marked =>
    rw [if_pos (by simpa using hcnt), emitOrFault_of_ok (by simpa using hmark)]
    simp [State.appendOut, State.consumeAnswer, State.setAS, State.setCNT, State.setODD, hcnt]
  case markRefused =>
    rw [if_pos (by simpa using hcnt), emitOrFault_of_fail (by simpa using hmark)]
    simp [State.appendOut, State.consumeAnswer, State.setAS, State.setCNT, State.setODD, State.setFLT, hcnt]

/-- Settles O25: the equations of END, the final byte's emission split by the sink's answer. -/
theorem endCommandRule : Obligations.EndCommandRule := by
  intro data s
  refine ⟨fun hflt => exec_of_fault hflt _, fun hflt hact => exec_endStream_of_not_act hflt hact data,
    fun hflt hact hodd => exec_endStream_of_not_odd hflt hact hodd data,
    fun hflt hact hodd hbyte => ?accepted, fun hflt hact hodd hbyte => ?refused⟩
  all_goals rw [exec_endStream_of_odd hflt hact hodd]
  case accepted => rw [emitOrFault_of_ok hbyte, padSingle_eq_append]; rfl
  case refused => exact emitOrFault_of_fail hbyte

/-! ## What each command can do -/

theorem exec_reserved_next {data : Nat} (h : exec (.reserved data) s = .next t) :
    (s.FLT ≠ 0 ∧ t = s) ∨ (s.FLT = 0 ∧ t = s.setFLT 4) :=
  (unlessFaulted_next h).imp_right fun ⟨hflt, hraise⟩ => ⟨hflt, (Host.Outcome.next.inj hraise).symm⟩

theorem exec_start_next {rate : Nat} (h : exec (.start rate) s = .next t) :
    (s.FLT ≠ 0 ∧ t = s) ∨
    (s.FLT = 0 ∧ s.ACT = true ∧ t = s.setFLT 3) ∨
    (s.FLT = 0 ∧ s.ACT = false ∧ resolve rate = none ∧ t = s.setFLT 1) ∨
    (s.FLT = 0 ∧ s.ACT = false ∧ ∃ m, resolve rate = some m ∧
      ((s.answerAt 0 = .fail ∧ t = s.consumeAnswer.setFLT 2) ∨
       (s.answerAt 0 = .ok ∧ t = (s.consumeAnswer.appendOut m).openStream m))) := by
  by_cases hflt : s.FLT = 0
  case neg => rw [exec_of_fault hflt] at h; cases h; exact .inl ⟨hflt, rfl⟩
  cases hact : s.ACT with
  | true => rw [exec_start_of_act hflt hact] at h; cases h; simp [hflt]
  | false =>
    cases hrate : resolve rate with
    | none => rw [exec_start_of_resolve_none hflt hact hrate] at h; cases h; simp [hflt]
    | some m =>
      rw [exec_start_of_resolve_some hflt hact hrate] at h
      obtain ⟨hok, hnext⟩ | hfail := emitOrFault_next h
      · cases hnext; simp [hflt, hok]
      · simp [hflt, hfail]

theorem pairNibble_next {nib : Nibble} (h : pairNibble nib s = .next t) :
    (s.answerAt 0 = .fail ∧ t = s.consumeAnswer.setFLT 2) ∨
    (s.answerAt 0 = .ok ∧ s.CNT ≠ 255 ∧ t = s.countPair nib) ∨
    (s.answerAt 0 = .ok ∧ s.CNT = 255 ∧ s.answerAt 1 = .ok ∧ t = (s.countPair nib).consumeAnswer.appendOut s.MRK) ∨
    (s.answerAt 0 = .ok ∧ s.CNT = 255 ∧ s.answerAt 1 = .fail ∧ t = (s.countPair nib).consumeAnswer.setFLT 2) := by
  obtain hbyte | hbyte := answerAt_ok_or_fail s 0
  case inr => rw [pairNibble_of_fail hbyte] at h; cases h; exact .inl ⟨hbyte, rfl⟩
  rw [pairNibble_of_ok hbyte] at h
  split at h
  next hcnt =>
    obtain ⟨hmark, hnext⟩ | ⟨hmark, rfl⟩ := emitOrFault_next h
    · cases hnext; exact .inr (.inr (.inl ⟨hbyte, hcnt, by simpa using hmark, rfl⟩))
    · exact .inr (.inr (.inr ⟨hbyte, hcnt, by simpa using hmark, rfl⟩))
  next hcnt => cases h; exact .inr (.inl ⟨hbyte, hcnt, rfl⟩)

/-- The second nibble's cases are those of `pairNibble_next`. -/
theorem exec_sample_next {value : Int} (h : exec (.sample value) s = .next t) :
    (s.FLT ≠ 0 ∧ t = s) ∨
    (s.FLT = 0 ∧ s.ACT = false ∧ t = s.setFLT 3) ∨
    (s.FLT = 0 ∧ s.ACT = true ∧ s.ODD = false ∧
      t = ((s.setAS (encodeSample s.tables value s.AS.toNat).2).setSTG
        (0#4 ++ (encodeSample s.tables value s.AS.toNat).1)).setODD true) ∨
    (s.FLT = 0 ∧ s.ACT = true ∧ s.ODD = true ∧
      pairNibble (encodeSample s.tables value s.AS.toNat).1 (s.setAS (encodeSample s.tables value s.AS.toNat).2) =
        .next t) := by
  by_cases hflt : s.FLT = 0
  case neg => rw [exec_of_fault hflt] at h; cases h; exact .inl ⟨hflt, rfl⟩
  cases hact : s.ACT with
  | false => rw [exec_sample_of_not_act hflt hact] at h; cases h; simp [hflt]
  | true =>
    cases hodd : s.ODD with
    | false => rw [exec_sample_of_not_odd hflt hact hodd, holdNibble_eq] at h; cases h; simp [hflt]
    | true => rw [exec_sample_of_odd hflt hact hodd] at h; simp [hflt, h]

theorem exec_endStream_next {data : Nat} (h : exec (.endStream data) s = .next t) :
    (s.FLT ≠ 0 ∧ t = s) ∨
    (s.FLT = 0 ∧ s.ACT = false ∧ t = s.setFLT 3) ∨
    (s.FLT = 0 ∧ s.ACT = true ∧ s.ODD = false ∧ t = s.setACT false) ∨
    (s.FLT = 0 ∧ s.ACT = true ∧ s.ODD = true ∧
      ((s.answerAt 0 = .fail ∧ t = s.consumeAnswer.setFLT 2) ∨
       (s.answerAt 0 = .ok ∧
        t = ((s.consumeAnswer.appendOut (padSingle s.STG)).setODD false).setACT false))) := by
  by_cases hflt : s.FLT = 0
  case neg => rw [exec_of_fault hflt] at h; cases h; exact .inl ⟨hflt, rfl⟩
  cases hact : s.ACT with
  | false => rw [exec_endStream_of_not_act hflt hact] at h; cases h; simp [hflt]
  | true =>
    cases hodd : s.ODD with
    | false => rw [exec_endStream_of_not_odd hflt hact hodd] at h; cases h; simp [hflt]
    | true =>
      rw [exec_endStream_of_odd hflt hact hodd] at h
      obtain ⟨hok, hnext⟩ | hfail := emitOrFault_next h
      · cases hnext; simp [hflt, hok]
      · simp [hflt, hfail]

/-! ## The counter (R93) -/

theorem exec_start_CNT {rate : Nat} (h : exec (.start rate) s = .next t) :
    t.CNT = if s.FLT = 0 ∧ s.ACT = false ∧ rate ∈ [5000, 6000, 8000] ∧ s.answerAt 0 = .ok then 0 else s.CNT := by
  obtain ⟨hflt, rfl⟩ | ⟨hflt, hact, rfl⟩ | ⟨hflt, hact, hrate, rfl⟩ | ⟨hflt, hact, m, hrate, hcase⟩ := exec_start_next h
  · rw [if_neg fun hopen => hflt hopen.1]
  · simp [hact]
  · rw [if_neg fun hopen => resolve_eq_none_iff.mp hrate hopen.2.2.1, setFLT_CNT]
  · have hmem : rate ∈ [5000, 6000, 8000] := by
      by_contra hnot
      simp [resolve_eq_none_iff.mpr hnot] at hrate
    obtain ⟨hfail, rfl⟩ | ⟨hok, rfl⟩ := hcase
    · simp [hfail]
    · rw [if_pos ⟨hflt, hact, hmem, hok⟩]; rfl

theorem pairNibble_CNT {nib : Nibble} (h : pairNibble nib s = .next t) :
    t.CNT = if s.answerAt 0 = .ok then s.CNT + 1 else s.CNT := by
  obtain ⟨hfail, rfl⟩ | ⟨hok, -, rfl⟩ | ⟨hok, -, -, rfl⟩ | ⟨hok, -, -, rfl⟩ := pairNibble_next h
  · simp [hfail]
  · simp [hok]
  · simp [hok]
  · simp [hok]

theorem exec_sample_CNT {value : Int} (h : exec (.sample value) s = .next t) :
    t.CNT = if s.FLT = 0 ∧ s.ACT = true ∧ s.ODD = true ∧ s.answerAt 0 = .ok then s.CNT + 1 else s.CNT := by
  obtain ⟨hflt, rfl⟩ | ⟨-, hact, rfl⟩ | ⟨-, -, hodd, rfl⟩ | ⟨hflt, hact, hodd, hpair⟩ := exec_sample_next h
  · rw [if_neg fun hpaired => hflt hpaired.1]
  · simp [hact]
  · simp [hodd]
  · rw [pairNibble_CNT hpair]
    exact if_congr (by simp [hflt, hact, hodd]) rfl rfl

theorem exec_endStream_CNT {data : Nat} (h : exec (.endStream data) s = .next t) : t.CNT = s.CNT := by
  obtain ⟨-, rfl⟩ | ⟨-, -, rfl⟩ | ⟨-, -, -, rfl⟩ | ⟨-, -, -, ⟨-, rfl⟩ | ⟨-, rfl⟩⟩ := exec_endStream_next h
  all_goals rfl

/-- Settles O28: RESERVED and END never write `CNT`; START and SAMPLE write it only after their byte is accepted. -/
theorem counterCountsPairedBytes : Obligations.CounterCountsPairedBytes := by
  intro i s t h
  cases i with
  | reserved data => obtain ⟨-, rfl⟩ | ⟨-, rfl⟩ := exec_reserved_next h <;> rfl
  | start rate => exact exec_start_CNT h
  | sample value => exact exec_sample_CNT h
  | endStream data => exact exec_endStream_CNT h

end Sys2Proof.Machine
end

section
/-!
PROOFS. The faults (60_exceptions.md): the code each command leaves in `FLT`, by the order of its checks (R117), and the START
whose rate is none of the three (R111).
-/

namespace Sys2Proof.Machine

variable {s t : State}

/-! ## The fault a command leaves in a block without one -/

theorem exec_start_FLT (hflt : s.FLT = 0) {rate : Nat} (h : exec (.start rate) s = .next t) :
    t.FLT = if s.ACT = true then 3 else if rate ∉ [5000, 6000, 8000] then 1 else if s.answerAt 0 = .fail then 2 else 0 := by
  simp only [← resolve_eq_none_iff]
  obtain ⟨hfault, -⟩ | ⟨-, hact, rfl⟩ | ⟨-, hact, hrate, rfl⟩ | ⟨-, hact, m, hrate, ⟨hfail, rfl⟩ | ⟨hok, rfl⟩⟩ :=
    exec_start_next h
  · exact absurd hflt hfault
  · simp [hact]
  · simp [hact, hrate]
  · simp [hact, hrate, hfail]
  · simp [hact, hrate, hok, hflt]

/-- The pair's byte is offered before the marker, and the marker only where the counter wraps. -/
theorem pairNibble_FLT (hflt : s.FLT = 0) {nib : Nibble} (h : pairNibble nib s = .next t) :
    t.FLT = if s.answerAt 0 = .fail ∨ (s.CNT = 255 ∧ s.answerAt 1 = .fail) then 2 else 0 := by
  obtain ⟨hbyte, rfl⟩ | ⟨hbyte, hcnt, rfl⟩ | ⟨hbyte, -, hmark, rfl⟩ | ⟨hbyte, hcnt, hmark, rfl⟩ := pairNibble_next h
  · simp [hbyte]
  · simpa [hbyte, hflt] using fun hwrap => absurd hwrap hcnt
  · simp [hbyte, hmark, hflt]
  · simp [hcnt, hmark]

theorem exec_sample_FLT (hflt : s.FLT = 0) {value : Int} (h : exec (.sample value) s = .next t) :
    t.FLT =
      if s.ACT = false then 3
      else if s.ODD = true ∧ (s.answerAt 0 = .fail ∨ (s.CNT = 255 ∧ s.answerAt 1 = .fail)) then 2 else 0 := by
  obtain ⟨hfault, -⟩ | ⟨-, hact, rfl⟩ | ⟨-, hact, hodd, rfl⟩ | ⟨-, hact, hodd, hpair⟩ := exec_sample_next h
  · exact absurd hflt hfault
  · simp [hact]
  · simp [hact, hodd, hflt]
  · rw [if_neg (by simp [hact]), pairNibble_FLT ((setAS_FLT s _).trans hflt) hpair]
    exact if_congr (by simp [hodd]) rfl rfl

theorem exec_endStream_FLT (hflt : s.FLT = 0) {data : Nat} (h : exec (.endStream data) s = .next t) :
    t.FLT = if s.ACT = false then 3 else if s.ODD = true ∧ s.answerAt 0 = .fail then 2 else 0 := by
  obtain ⟨hfault, -⟩ | ⟨-, hact, rfl⟩ | ⟨-, hact, hodd, rfl⟩ | ⟨-, hact, hodd, ⟨hfail, rfl⟩ | ⟨hok, rfl⟩⟩ :=
    exec_endStream_next h
  · exact absurd hflt hfault
  · simp [hact]
  · simp [hact, hodd, hflt]
  · simp [hact, hodd, hfail]
  · simp [hact, hodd, hok, hflt]

/-- Settles O27: a faulted block ignores the command; in any other, each command's checks decide in their order. -/
theorem faultPriority : Obligations.FaultPriority := by
  intro i s t h
  refine ⟨fun hfault => ?ignored, fun hflt => ?checked⟩
  case ignored =>
    rw [exec_of_fault hfault] at h
    exact (Host.Outcome.next.inj h).symm
  case checked =>
    cases i with
    | reserved data => rw [exec_reserved_of_ok hflt] at h; cases h; rfl
    | start rate => exact exec_start_FLT hflt h
    | sample value => exact exec_sample_FLT hflt h
    | endStream data => exact exec_endStream_FLT hflt h

/-! ## A START word with an unsupported rate (R111) -/

/-- Settles O26: the word decodes to START, its rate resolves to no marker, and the command ends at that check. -/
theorem unsupportedRateEmitsNothing : Obligations.UnsupportedRateEmitsNothing := by
  intro s rate rest hflt hact h5 h6 h8 hinputs
  have hstep : step s = exec (.start rate.toNat) { s with inputs := rest } := by
    rw [← decode_cmdWord_start, ← step_command_cons, cmdWord, ← hinputs]
  have hrate : resolve rate.toNat = none :=
    resolve_eq_none (fun h => h5 (BitVec.eq_of_toNat_eq h)) (fun h => h6 (BitVec.eq_of_toNat_eq h))
      (fun h => h8 (BitVec.eq_of_toNat_eq h))
  rw [hstep]
  exact exec_start_of_resolve_none (s := { s with inputs := rest }) hflt hact hrate

end Sys2Proof.Machine
end

section
/-!
PROOFS. The round trip between words and commands (30_encoding.md sections 1 to 3), and the words the spec prints.
-/

namespace Sys2Proof

/-! ## Decoding an encoded command -/

/-- A rate or an ignored operand in its 16-bit range is the unsigned reading of its own pattern (R46, R48, R53). -/
theorem toNat_ofNat_of_unsigned16 {n : Nat} (h : unsigned16 n = true) : (BitVec.ofNat 16 n).toNat = n :=
  BitVec.toNat_ofNat n 16 ▸ Nat.mod_eq_of_lt (wellFormed_unsigned h)

/-- A sample in its 16-bit range is the two's complement reading of its own pattern (R47). -/
theorem toInt_ofInt_of_signed16 {v : Int} (h : signed16 v = true) : (BitVec.ofInt 16 v).toInt = v := by
  obtain ⟨hlo, hhi⟩ := wellFormed_signed h
  rw [BitVec.toInt_ofInt, Int.bmod_eq_of_le] <;> omega

/-- Settles O2: each command's word is its row's `op` over its operand's pattern, and the decoder reads that operand back. -/
theorem decodeOfEncodeIsIdentity : Obligations.DecodeOfEncodeIsIdentity := by
  intro i hwf
  cases i with
  | reserved data => rw [encode, decode_cmdWord_reserved, toNat_ofNat_of_unsigned16 hwf]
  | start rate => rw [encode, decode_cmdWord_start, toNat_ofNat_of_unsigned16 hwf]
  | sample value => rw [encode, decode_cmdWord_sample, toInt_ofInt_of_signed16 hwf]
  | endStream data => rw [encode, decode_cmdWord_endStream, toNat_ofNat_of_unsigned16 hwf]

/-! ## Encoding a decoded word -/

theorem unsigned16_toNat (data : BitVec 16) : unsigned16 data.toNat = true :=
  decide_eq_true data.isLt

theorem signed16_toInt (data : BitVec 16) : signed16 data.toInt = true := by
  have hlo := data.le_toInt
  have hhi := data.toInt_lt
  simp only [signed16, Bool.and_eq_true, decide_eq_true_eq]
  omega

/-- Settles O3: a word is one of the four rows' `op` over its `data`; each row's operand is in range and has that `data` as its
pattern. -/
theorem encodeOfDecodeIsIdentity : Obligations.EncodeOfDecodeIsIdentity := by
  intro w
  have hop : ∀ op : BitVec 2, op = 0b00#2 ∨ op = 0b01#2 ∨ op = 0b10#2 ∨ op = 0b11#2 := by decide
  rw [← cmdWord_fields w]
  obtain h | h | h | h := hop (opField w) <;> rw [h]
  · rw [decode_cmdWord_reserved, encode, BitVec.ofNat_toNat, BitVec.setWidth_eq]
    exact ⟨unsigned16_toNat _, rfl⟩
  · rw [decode_cmdWord_start, encode, BitVec.ofNat_toNat, BitVec.setWidth_eq]
    exact ⟨unsigned16_toNat _, rfl⟩
  · rw [decode_cmdWord_sample, encode, BitVec.ofInt_toInt]
    exact ⟨signed16_toInt _, rfl⟩
  · rw [decode_cmdWord_endStream, encode, BitVec.ofNat_toNat, BitVec.setWidth_eq]
    exact ⟨unsigned16_toNat _, rfl⟩

/-! ## Words in numbers -/

/-- Settles O4: eleven closed instances of the decoder. -/
theorem exampleWordsDecode : Obligations.ExampleWordsDecode := by
  unfold Obligations.ExampleWordsDecode; decide

/-- Settles O5: `decodeBits` looks at the number alone. -/
theorem numbersAboveEighteenBitsAreNoCommand : Obligations.NumbersAboveEighteenBitsAreNoCommand := by
  intro nbits w
  by_cases hw : w < 2 ^ 18
  · have hbits : decodeBits w = .ok (decode (BitVec.ofNat 18 w)) := if_pos hw
    rw [if_pos hw, decodeTableWord, hbits]
  · have hbits : decodeBits w = .error .widerThan18Bits := if_neg hw
    rw [if_neg hw, decodeTableWord, hbits]

end Sys2Proof
end

section
/-!
PROOFS. The predictor reads its sample through bits 14:7 (40_predictor.md R67, R78), and its state through the clamp (R68).
-/

namespace Sys2Proof.Machine

/-! ## The sample -/

/-- The narrowed value is the signed reading of bits 14:7 (R66): the shift drops bits 6:0, the narrowing bit 15. -/
theorem quantise_toInt (data : BitVec 16) : quantise data.toInt = (data.extractLsb' 7 8).toInt := by
  have hbyte : (data.extractLsb' 7 8).toNat = data.toNat / 128 % 256 := by
    simp [BitVec.extractLsb'_toNat, Nat.shiftRight_eq_div_pow]
  rw [quantise_eq, BitVec.toInt_eq_toNat_cond, BitVec.toInt_eq_toNat_cond, hbyte]
  split <;> split <;> omega

theorem sampleCode_toInt (data : BitVec 16) : sampleCode data.toInt = clamp4 (data.extractLsb' 7 8).toInt := by
  rw [sampleCode, quantise_toInt]

/-- The clamp of a signed byte, from the byte's bits. -/
theorem clamp4_byte (b : Byte) :
    clamp4 b.toInt =
      if b.getLsbD 7 = true then 0 else if b.extractLsb' 4 3 ≠ 0 then 15 else b.extractLsb' 0 4 := by
  revert b; decide

/-- A field of a field is the field further up. -/
theorem extractLsb'_extractLsb' {w : Nat} (x : BitVec w) {start len start' len' : Nat} (h : start' + len' ≤ len) :
    (x.extractLsb' start len).extractLsb' start' len' = x.extractLsb' (start + start') len' := by
  refine BitVec.eq_of_getLsbD_eq fun i hi => ?_
  simp [Nat.add_assoc, hi, show start' + i < len by omega]

/-- Settles O18: the code is the clamp of the byte in bits 14:7, and the byte's fields are the sample's, 7 places up. -/
theorem sampleCodeFromBits : Obligations.SampleCodeFromBits := by
  intro data
  have hsign : (data.extractLsb' 7 8).getLsbD 7 = data.getLsbD 14 := by simp
  rw [sampleCode_toInt, clamp4_byte, hsign, extractLsb'_extractLsb' data (by decide),
    extractLsb'_extractLsb' data (by decide)]

/-- `ENCODE` reads its sample through the sample code only (R69). -/
theorem encodeSample_congr_sampleCode {sample sample' : Int} (h : sampleCode sample = sampleCode sample')
    (t : Tables) (state : Int) : encodeSample t sample state = encodeSample t sample' state := by
  simp only [encodeSample, h]

/-- Settles O19: the code is a function of bits 14:7, and `ENCODE` of the code. -/
theorem encodeIgnoresSignAndLowBits : Obligations.EncodeIgnoresSignAndLowBits := by
  intro t state d d' hbits
  refine encodeSample_congr_sampleCode ?_ t state
  rw [sampleCode_toInt, sampleCode_toInt, hbits]

/-! ## The state -/

/-- `ENCODE` reads its state through the clamp only (R68). -/
theorem encodeSample_congr_clamp4 {state state' : Int} (h : clamp4 state = clamp4 state')
    (t : Tables) (sample : Int) : encodeSample t sample state = encodeSample t sample state' := by
  simp only [encodeSample, nextState, h]

/-- Settles O17: the clamp sends what is below 0 where it sends 0, and what is above 15 where it sends 15. -/
theorem encodeClampsItsState : Obligations.EncodeClampsItsState := by
  intro t sample state
  refine ⟨fun hneg => encodeSample_congr_clamp4 ?_ t sample, fun hbig => encodeSample_congr_clamp4 ?_ t sample⟩
  · exact (if_pos hneg).trans (by decide)
  · exact (if_neg (by omega)).trans ((if_pos hbig).trans (by decide))

end Sys2Proof.Machine
end

section
/-!
PROOFS. Steps (00_scope.md R8, 70_reset_and_hazards.md): the three kinds of step, what each kind can do, and the laws of a step
that need no invariant.
-/

namespace Sys2Proof.Machine

variable {s t : State}

/-! ## The three kinds of step -/

/-- Settles O9: with no input the step answers the state itself. -/
theorem blockWithoutInputHolds : Obligations.BlockWithoutInputHolds := by
  intro s hinputs
  rw [step, hinputs]

/-- Settles O8: the word is taken off and its command run. -/
theorem stepExecutesDecodedCommand : Obligations.StepExecutesDecodedCommand := by
  intro s w rest hinputs
  rw [step, hinputs]

theorem step_rst {rest : List Input} (hinputs : s.inputs = .rst :: rest) :
    step s = .next (powerOnReset { s with inputs := rest }) := by
  rw [step, hinputs]

/-- A step is idle, a reset, or the command of the word that is offered. -/
theorem step_next (h : step s = .next t) :
    (s.inputs = [] ∧ t = s) ∨
    (∃ rest, s.inputs = .rst :: rest ∧ t = powerOnReset { s with inputs := rest }) ∨
    (∃ w rest, s.inputs = .command w :: rest ∧ exec (decode w) { s with inputs := rest } = .next t) := by
  match hinputs : s.inputs with
  | [] =>
    rw [blockWithoutInputHolds s hinputs] at h
    exact .inl ⟨rfl, (Host.Outcome.next.inj h).symm⟩
  | .rst :: rest =>
    rw [step_rst hinputs] at h
    exact .inr (.inl ⟨rest, rfl, (Host.Outcome.next.inj h).symm⟩)
  | .command w :: rest =>
    rw [stepExecutesDecodedCommand s w rest hinputs] at h
    exact .inr (.inr ⟨w, rest, rfl, h⟩)

/-! ## A faulted block -/

/-- Settles O21: the first line of every command. -/
theorem faultedCommandsDoNothing : Obligations.FaultedCommandsDoNothing :=
  fun i _ hflt => exec_of_fault hflt i

/-- Settles O12: the word is taken, and its command does nothing. -/
theorem faultedStepOnlyTakesTheWord : Obligations.FaultedStepOnlyTakesTheWord := by
  intro s w rest hflt hinputs
  rw [stepExecutesDecodedCommand s w rest hinputs]
  exact exec_of_fault (s := { s with inputs := rest }) hflt _

/-! ## Reset -/

/-- Neither an idle step nor a command's step clears a fault. -/
theorem inputs_rst_of_clears_fault (h : step s = .next t) (hflt : s.FLT ≠ 0) (hclear : t.FLT = 0) :
    ∃ rest, s.inputs = .rst :: rest := by
  obtain ⟨-, rfl⟩ | ⟨rest, hinputs, -⟩ | ⟨w, rest, hinputs, -⟩ := step_next h
  · exact absurd hclear hflt
  · exact ⟨rest, hinputs⟩
  · rw [faultedStepOnlyTakesTheWord s w rest hflt hinputs] at h
    cases h
    exact absurd hclear hflt

/-- Settles O10: the reset's writes, and the one kind of step that clears a fault. -/
theorem powerOnResetWritesEveryRegister : Obligations.PowerOnResetWritesEveryRegister :=
  ⟨fun _ _ hinputs => step_rst hinputs, fun _ _ => inputs_rst_of_clears_fault⟩

/-- Settles O11: the values `State.reset` is written with. -/
theorem resetStateHasTheResetValues : Obligations.ResetStateHasTheResetValues :=
  ⟨rfl, rfl, rfl, rfl, rfl, rfl, rfl, rfl⟩

/-! ## Every command completes -/

theorem emitOrFault_completes {rest : State → Result} (hrest : ∀ u, ∃ t, rest u = .next t) (b : Byte) (s : State) :
    ∃ t, emitOrFault b s rest = .next t := by
  obtain hok | hfail := answerAt_ok_or_fail s 0
  · rw [emitOrFault_of_ok hok]; exact hrest _
  · exact ⟨_, emitOrFault_of_fail hfail⟩

theorem pairNibble_completes (nib : Nibble) (s : State) : ∃ t, pairNibble nib s = .next t := by
  refine emitOrFault_completes (fun u => ?_) _ s
  dsimp only
  split
  · exact emitOrFault_completes (fun v => ⟨v, rfl⟩) _ _
  · exact ⟨_, rfl⟩

theorem exec_completes (i : Instr) (s : State) : ∃ t, exec i s = .next t := by
  by_cases hflt : s.FLT = 0
  case neg => exact ⟨s, exec_of_fault hflt i⟩
  cases i with
  | reserved data => exact ⟨_, exec_reserved_of_ok hflt data⟩
  | start rate =>
    cases hact : s.ACT with
    | true => exact ⟨_, exec_start_of_act hflt hact rate⟩
    | false =>
      cases hrate : resolve rate with
      | none => exact ⟨_, exec_start_of_resolve_none hflt hact hrate⟩
      | some m =>
        rw [exec_start_of_resolve_some hflt hact hrate]
        exact emitOrFault_completes (fun u => ⟨_, rfl⟩) _ s
  | sample value =>
    cases hact : s.ACT with
    | false => exact ⟨_, exec_sample_of_not_act hflt hact value⟩
    | true =>
      cases hodd : s.ODD with
      | false => rw [exec_sample_of_not_odd hflt hact hodd]; exact ⟨_, rfl⟩
      | true => rw [exec_sample_of_odd hflt hact hodd]; exact pairNibble_completes _ _
  | endStream data =>
    cases hact : s.ACT with
    | false => exact ⟨_, exec_endStream_of_not_act hflt hact data⟩
    | true =>
      cases hodd : s.ODD with
      | false => exact ⟨_, exec_endStream_of_not_odd hflt hact hodd data⟩
      | true =>
        rw [exec_endStream_of_odd hflt hact hodd]
        exact emitOrFault_completes (fun u => ⟨_, rfl⟩) _ s

/-- Settles O13: the idle step and the reset answer a state at once, and every command completes. -/
theorem everyStepCompletes : Obligations.EveryStepCompletes := by
  intro s
  match hinputs : s.inputs with
  | [] => exact ⟨s, blockWithoutInputHolds s hinputs⟩
  | .rst :: rest => exact ⟨_, step_rst hinputs⟩
  | .command w :: rest => rw [stepExecutesDecodedCommand s w rest hinputs]; exact exec_completes _ _

end Sys2Proof.Machine
end

section
/-!
PROOFS. What each command writes and what it leaves alone: its bytes (41_packer.md R90, R95), its frame and the accesses to `AS` and
`STG` (10_state.md R11, R12, R25).
-/

namespace Sys2Proof.Machine

variable {s t : State}

/-! ## Emit -/

/-- Settles O31: both answers, one equation each, and the later answers move up by one. -/
theorem emitAppendsExactlyAcceptedBytes : Obligations.EmitAppendsExactlyAcceptedBytes := by
  intro b s
  obtain hok | hfail := answerAt_ok_or_fail s 0
  · have hemit : emit b s = (.ok, s.consumeAnswer.appendOut b) := by rw [emit, hok]
    rw [hemit, hok, if_pos rfl]
    exact ⟨rfl, consumeAnswer_answerAt s⟩
  · have hemit : emit b s = (.fail, s.consumeAnswer) := by rw [emit, hfail]
    rw [hemit, hfail, if_neg (by decide)]
    exact ⟨rfl, consumeAnswer_answerAt s⟩

/-! ## Frames (R25) -/

/-- The second nibble's byte and marker touch `CNT`, `ODD`, `FLT`, `OUT` and the sink only. -/
theorem pairNibble_frame {nib : Nibble} (h : pairNibble nib s = .next t) :
    t.AS = s.AS ∧ t.STG = s.STG ∧ t.MRK = s.MRK ∧ t.ACT = s.ACT ∧ t.tables = s.tables ∧ t.inputs = s.inputs := by
  obtain ⟨-, rfl⟩ | ⟨-, -, rfl⟩ | ⟨-, -, -, rfl⟩ | ⟨-, -, -, rfl⟩ := pairNibble_next h
  all_goals exact ⟨rfl, rfl, rfl, rfl, rfl, rfl⟩

/-- Settles O35: the one write of RESERVED. -/
theorem frameOfReserved : Obligations.FrameOfReserved := by
  intro data s t h
  obtain ⟨-, rfl⟩ | ⟨-, rfl⟩ := exec_reserved_next h <;> rfl

/-- Settles O32: only the case that opens a stream writes more than `FLT`, and it leaves `FLT` 0. -/
theorem frameOfStart : Obligations.FrameOfStart := by
  intro rate s t h
  obtain ⟨hflt, rfl⟩ | ⟨-, -, rfl⟩ | ⟨-, -, -, rfl⟩ | ⟨hflt, -, m, hrate, ⟨-, rfl⟩ | ⟨-, rfl⟩⟩ := exec_start_next h
  case inr.inr.inr.inr => exact ⟨rfl, rfl, rfl, fun hfault => absurd hflt hfault, fun _ => ⟨m, hrate, rfl⟩⟩
  all_goals refine ⟨rfl, rfl, rfl, fun _ => ⟨rfl, rfl, rfl, rfl, rfl, rfl⟩, fun hok => absurd hok ?_⟩
  case inl => exact hflt
  all_goals simp

/-- Settles O33: a first nibble is held in `STG`; a second one is emitted, by the frame of the pair. -/
theorem frameOfSample : Obligations.FrameOfSample := by
  intro value s t h
  obtain ⟨-, rfl⟩ | ⟨-, -, rfl⟩ | ⟨-, hact, hodd, rfl⟩ | ⟨-, hact, hodd, hpair⟩ := exec_sample_next h
  case inr.inr.inr =>
    obtain ⟨-, hstg, hmrk, hactKept, htables, hinputs⟩ := pairNibble_frame hpair
    refine ⟨hmrk, hactKept, htables, hinputs, ?_, fun _ => hstg, ?_⟩
    · simp [hodd]
    · simp [hact]
  case inr.inr.inl =>
    refine ⟨rfl, rfl, rfl, rfl, fun _ => ⟨rfl, rfl, rfl, rfl⟩, ?_, ?_⟩
    · simp [hodd]
    · simp [hact]
  all_goals exact ⟨rfl, rfl, rfl, rfl, fun _ => ⟨rfl, rfl, rfl, rfl⟩, fun _ => rfl, fun _ => rfl⟩

/-- Settles O34: only the case that emits the held nibble touches `OUT` and the sink, and it needs a held nibble. -/
theorem frameOfEnd : Obligations.FrameOfEnd := by
  intro data s t h
  obtain ⟨-, rfl⟩ | ⟨-, -, rfl⟩ | ⟨-, hact, hodd, rfl⟩ | ⟨-, hact, hodd, hcase⟩ := exec_endStream_next h
  case inr.inr.inr =>
    obtain ⟨-, rfl⟩ | ⟨-, rfl⟩ := hcase
    all_goals simp [hact, hodd]
  case inr.inr.inl => simp [hact, hodd]
  all_goals exact ⟨rfl, rfl, rfl, rfl, rfl, rfl, fun hodd => ⟨hodd, rfl, rfl, rfl⟩, fun _ => rfl⟩

theorem exec_tables {i : Instr} (h : exec i s = .next t) : t.tables = s.tables := by
  cases i with
  | reserved data => rw [frameOfReserved data s t h]
  | start rate =>
    obtain ⟨-, htables, -⟩ := frameOfStart rate s t h
    exact htables
  | sample value =>
    obtain ⟨-, -, htables, -⟩ := frameOfSample value s t h
    exact htables
  | endStream data =>
    obtain ⟨-, -, -, -, htables, -⟩ := frameOfEnd data s t h
    exact htables

/-! ## The bytes of a command (R90) -/

/-- A second nibble appends nothing, its byte, or its byte and the marker. -/
theorem pairNibble_OUT {nib : Nibble} (h : pairNibble nib s = .next t) :
    t.OUT = s.OUT ∨ t.OUT = s.OUT ++ [s.STG.extractLsb' 0 4 ++ nib] ∨
    (s.CNT = 255 ∧ t.OUT = s.OUT ++ [s.STG.extractLsb' 0 4 ++ nib, s.MRK]) := by
  rw [← packPair_eq_append]
  obtain ⟨-, rfl⟩ | ⟨-, -, rfl⟩ | ⟨-, hcnt, -, rfl⟩ | ⟨-, -, -, rfl⟩ := pairNibble_next h
  · exact .inl rfl
  · exact .inr (.inl rfl)
  · exact .inr (.inr ⟨hcnt, by simp⟩)
  · exact .inr (.inl rfl)

/-- Settles O29: START's marker, SAMPLE's pair by `pairNibble_OUT`, END's padded byte; every other case keeps `OUT`. -/
theorem outputComesFromTheMultiplexer : Obligations.OutputComesFromTheMultiplexer := by
  intro i s t h
  cases i with
  | reserved data => rw [frameOfReserved data s t h]; exact .inl rfl
  | start rate =>
    obtain ⟨-, rfl⟩ | ⟨-, -, rfl⟩ | ⟨-, -, -, rfl⟩ | ⟨-, -, m, hrate, ⟨-, rfl⟩ | ⟨-, rfl⟩⟩ := exec_start_next h
    case inr.inr.inr.inr => exact .inr (.inl ⟨rate, m, rfl, hrate, rfl, rfl⟩)
    all_goals exact .inl rfl
  | sample value =>
    obtain ⟨-, rfl⟩ | ⟨-, -, rfl⟩ | ⟨-, -, -, rfl⟩ | ⟨-, -, hodd, hpair⟩ := exec_sample_next h
    case inr.inr.inr =>
      exact (pairNibble_OUT hpair).imp_right fun hbytes => .inr (.inl ⟨value, rfl, hodd, hbytes⟩)
    all_goals exact .inl rfl
  | endStream data =>
    obtain ⟨-, rfl⟩ | ⟨-, -, rfl⟩ | ⟨-, -, -, rfl⟩ | ⟨-, -, hodd, ⟨-, rfl⟩ | ⟨-, rfl⟩⟩ := exec_endStream_next h
    case inr.inr.inr.inr =>
      rw [padSingle_eq_append]
      exact .inr (.inr (.inr ⟨data, rfl, hodd, rfl⟩))
    all_goals exact .inl rfl

theorem exec_appends {i : Instr} (h : exec i s = .next t) :
    ∃ bytes, t.OUT = s.OUT ++ bytes ∧ bytes.length ≤ 2 := by
  obtain hout | ⟨_, m, -, -, -, hout⟩ | ⟨_, -, -, hout | ⟨-, hout⟩⟩ | ⟨_, -, -, hout⟩ :=
    outputComesFromTheMultiplexer i s t h
  · exact ⟨[], by simp [hout], by simp⟩
  all_goals exact ⟨_, hout, by simp⟩

/-- Settles O14: the idle step and the reset append nothing; a command appends what its multiplexer selects. -/
theorem stepsOnlyExtendTheOutput : Obligations.StepsOnlyExtendTheOutput := by
  intro s t h
  obtain ⟨-, rfl⟩ | ⟨rest, -, rfl⟩ | ⟨w, rest, -, hexec⟩ := step_next h
  · exact ⟨rfl, [], by simp, by simp⟩
  · exact ⟨rfl, [], by simp [powerOnReset], by simp⟩
  · exact ⟨exec_tables (s := { s with inputs := rest }) hexec, exec_appends (s := { s with inputs := rest }) hexec⟩

/-- Settles O30: with both answers `ok` a command either faults at a check, before any byte, or emits all of its bytes. -/
theorem emissionCountPerCommand : Obligations.EmissionCountPerCommand := by
  intro i s t haccept h
  have hbyte : s.answerAt 0 = .ok := haccept 0 (by decide)
  have hmark : s.answerAt 1 = .ok := haccept 1 (by decide)
  cases i with
  | reserved data => obtain ⟨-, rfl⟩ | ⟨-, rfl⟩ := exec_reserved_next h <;> simp
  | start rate =>
    obtain ⟨hflt, rfl⟩ | ⟨-, -, rfl⟩ | ⟨-, -, -, rfl⟩ | ⟨hflt, -, m, -, ⟨hfail, -⟩ | ⟨-, rfl⟩⟩ := exec_start_next h
    · rw [if_pos hflt]; rfl
    · simp
    · simp
    · simp [hbyte] at hfail
    · simp [hflt]
  | sample value =>
    obtain ⟨hflt, rfl⟩ | ⟨-, -, rfl⟩ | ⟨hflt, -, hodd, rfl⟩ | ⟨hflt, -, hodd, hpair⟩ := exec_sample_next h
    · rw [if_pos hflt]; rfl
    · simp
    · simp [hflt, hodd]
    · obtain ⟨hfail, -⟩ | ⟨-, hcnt, rfl⟩ | ⟨-, hcnt, -, rfl⟩ | ⟨-, -, hfail, -⟩ := pairNibble_next hpair
      · simp [hbyte] at hfail
      · simpa [hflt, hodd] using hcnt
      · simpa [hflt, hodd] using hcnt
      · simp [hmark] at hfail
  | endStream data =>
    obtain ⟨hflt, rfl⟩ | ⟨-, -, rfl⟩ | ⟨hflt, -, hodd, rfl⟩ | ⟨hflt, -, hodd, ⟨hfail, -⟩ | ⟨-, rfl⟩⟩ :=
      exec_endStream_next h
    · rw [if_pos hflt]; rfl
    · simp
    · simp [hflt, hodd]
    · simp [hbyte] at hfail
    · simp [hflt, hodd]

/-! ## The accesses to `AS` (R11) -/

theorem mem_of_resolve_eq_some {rate : Nat} {m : Byte} (h : resolve rate = some m) : rate ∈ [5000, 6000, 8000] := by
  by_contra hnot
  simp [resolve_eq_none_iff.mpr hnot] at h

theorem exec_start_AS {rate : Nat} (h : exec (.start rate) s = .next t) :
    t.AS = if s.FLT = 0 ∧ s.ACT = false ∧ rate ∈ [5000, 6000, 8000] ∧ s.answerAt 0 = .ok then 0 else s.AS := by
  obtain ⟨hflt, rfl⟩ | ⟨-, hact, rfl⟩ | ⟨-, -, hrate, rfl⟩ | ⟨hflt, hact, m, hrate, ⟨hfail, rfl⟩ | ⟨hok, rfl⟩⟩ :=
    exec_start_next h
  · rw [if_neg fun hopen => hflt hopen.1]
  · simp [hact]
  · rw [if_neg fun hopen => resolve_eq_none_iff.mp hrate hopen.2.2.1, setFLT_AS]
  · simp [hfail]
  · rw [if_pos ⟨hflt, hact, mem_of_resolve_eq_some hrate, hok⟩]; rfl

theorem exec_sample_AS {value : Int} (h : exec (.sample value) s = .next t) :
    t.AS = if s.FLT = 0 ∧ s.ACT = true then (encodeSample s.tables value s.AS.toNat).2 else s.AS := by
  obtain ⟨hflt, rfl⟩ | ⟨-, hact, rfl⟩ | ⟨hflt, hact, -, rfl⟩ | ⟨hflt, hact, -, hpair⟩ := exec_sample_next h
  · rw [if_neg fun hrun => hflt hrun.1]
  · simp [hact]
  · rw [if_pos ⟨hflt, hact⟩]; rfl
  · obtain ⟨has, -⟩ := pairNibble_frame hpair
    rw [if_pos ⟨hflt, hact⟩, has, setAS_AS]

/-- RESERVED writes `FLT` only, so it acts alike whatever `AS` and `STG` hold. -/
theorem exec_reserved_withStale {data : Nat} (h : exec (.reserved data) s = .next t) (a : Nibble) (v : Byte) :
    exec (.reserved data) { s with AS := a, STG := v } = .next { t with AS := a, STG := v } := by
  obtain ⟨hflt, rfl⟩ | ⟨hflt, rfl⟩ := exec_reserved_next h
  · exact exec_of_fault (by exact hflt) _
  · exact exec_reserved_of_ok (by exact hflt) _

/-- START makes the same checks, offers the same byte and makes the same writes whatever `AS` and `STG` hold. -/
theorem exec_start_withStale {rate : Nat} (h : exec (.start rate) s = .next t) (a : Nibble) (v : Byte) :
    exec (.start rate) { s with AS := a, STG := v } =
      .next { t with AS := if s.ACT = false ∧ t.ACT = true then 0 else a, STG := v } := by
  obtain ⟨hflt, rfl⟩ | ⟨hflt, hact, rfl⟩ | ⟨hflt, hact, hrate, rfl⟩ | ⟨hflt, hact, m, hrate, hcase⟩ := exec_start_next h
  · rw [exec_of_fault (by exact hflt)]; simp
  · rw [exec_start_of_act (by exact hflt) (by exact hact)]; simp [hact]; rfl
  · rw [exec_start_of_resolve_none (by exact hflt) (by exact hact) hrate]; simp [hact]; rfl
  · rw [exec_start_of_resolve_some (by exact hflt) (by exact hact) hrate]
    obtain ⟨hfail, rfl⟩ | ⟨hok, rfl⟩ := hcase
    · rw [emitOrFault_of_fail (by exact hfail)]; simp [hact]; rfl
    · rw [emitOrFault_of_ok (by exact hok)]; simp [hact]; rfl

theorem exec_start_AS_of_opens {rate : Nat} (h : exec (.start rate) s = .next t) :
    t.AS = if s.ACT = false ∧ t.ACT = true then 0 else s.AS := by
  obtain ⟨hflt, rfl⟩ | ⟨-, hact, rfl⟩ | ⟨-, hact, -, rfl⟩ | ⟨-, hact, m, -, ⟨-, rfl⟩ | ⟨-, rfl⟩⟩ := exec_start_next h
  all_goals simp [*]

/-- END reads and writes no `AS`. -/
theorem exec_endStream_withAS {data : Nat} (h : exec (.endStream data) s = .next t) (a : Nibble) :
    exec (.endStream data) { s with AS := a } = .next { t with AS := a } := by
  obtain ⟨hflt, rfl⟩ | ⟨hflt, hact, rfl⟩ | ⟨hflt, hact, hodd, rfl⟩ | ⟨hflt, hact, hodd, hcase⟩ := exec_endStream_next h
  · exact exec_of_fault (by exact hflt) _
  · exact exec_endStream_of_not_act (by exact hflt) (by exact hact) _
  · exact exec_endStream_of_not_odd (by exact hflt) (by exact hact) (by exact hodd) _
  · rw [exec_endStream_of_odd (by exact hflt) (by exact hact) (by exact hodd)]
    obtain ⟨hfail, rfl⟩ | ⟨hok, rfl⟩ := hcase
    · exact emitOrFault_of_fail (by exact hfail)
    · exact emitOrFault_of_ok (by exact hok)

/-- END opens no stream. -/
theorem exec_endStream_ACT {data : Nat} (h : exec (.endStream data) s = .next t) (hact : s.ACT = false) :
    t.ACT = false := by
  obtain ⟨-, -, -, -, -, -, -, hframe⟩ := frameOfEnd data s t h
  rw [hframe hact]
  exact hact

/-- Settles O36: the writes command by command; the reads by running each command but SAMPLE with another `AS`. -/
theorem adaptationStateAccess : Obligations.AdaptationStateAccess := by
  refine ⟨fun i s t h => ?written, fun i s t a hread h => ?read⟩
  case written =>
    cases i with
    | reserved data => rw [frameOfReserved data s t h]
    | start rate => exact exec_start_AS h
    | sample value => exact exec_sample_AS h
    | endStream data => exact (frameOfEnd data s t h).1
  case read =>
    cases i with
    | reserved data =>
      have hframe := frameOfReserved data s t h
      have hopens : ¬(s.ACT = false ∧ t.ACT = true) := by rw [hframe]; simp
      have hstg : t.STG = s.STG := by rw [hframe]
      rw [if_neg hopens, hstg]
      exact exec_reserved_withStale h a s.STG
    | start rate =>
      obtain ⟨hstg, -⟩ := frameOfStart rate s t h
      rw [hstg]
      exact exec_start_withStale h a s.STG
    | sample value => exact absurd rfl (hread value)
    | endStream data =>
      rw [if_neg fun ⟨hclosed, hopen⟩ => by simp [exec_endStream_ACT h hclosed] at hopen]
      exact exec_endStream_withAS h a

/-! ## The accesses to `STG` (R12) -/

/-- Only SAMPLE can leave a nibble held where none was. -/
theorem exec_ODD_of_not_sample {i : Instr} (hi : ∀ value, i ≠ .sample value) (hodd : s.ODD = false)
    (h : exec i s = .next t) : t.ODD = false := by
  cases i with
  | reserved data => rw [frameOfReserved data s t h]; exact hodd
  | start rate =>
    obtain ⟨-, rfl⟩ | ⟨-, -, rfl⟩ | ⟨-, -, -, rfl⟩ | ⟨-, -, m, -, ⟨-, rfl⟩ | ⟨-, rfl⟩⟩ := exec_start_next h
    all_goals simp [hodd]
  | sample value => exact absurd rfl (hi value)
  | endStream data =>
    obtain ⟨-, -, -, -, -, -, hframe, -⟩ := frameOfEnd data s t h
    exact (hframe hodd).1

theorem exec_sample_withSTG {value : Int} (hodd : s.ODD = false) (h : exec (.sample value) s = .next t) (v : Byte) :
    exec (.sample value) { s with STG := v } = .next { t with STG := if t.ODD = true then t.STG else v } := by
  obtain ⟨hflt, rfl⟩ | ⟨hflt, hact, rfl⟩ | ⟨hflt, hact, -, rfl⟩ | ⟨-, -, hheld, -⟩ := exec_sample_next h
  · rw [exec_of_fault (by exact hflt)]; simp [hodd]
  · rw [exec_sample_of_not_act (by exact hflt) (by exact hact)]; simp [hodd]; rfl
  · rw [exec_sample_of_not_odd (by exact hflt) (by exact hact) (by exact hodd), holdNibble_eq]; rfl
  · simp [hodd] at hheld

theorem exec_endStream_withSTG {data : Nat} (hodd : s.ODD = false) (h : exec (.endStream data) s = .next t) (v : Byte) :
    exec (.endStream data) { s with STG := v } = .next { t with STG := v } := by
  obtain ⟨hflt, rfl⟩ | ⟨hflt, hact, rfl⟩ | ⟨hflt, hact, -, rfl⟩ | ⟨-, -, hheld, -⟩ := exec_endStream_next h
  · exact exec_of_fault (by exact hflt) _
  · exact exec_endStream_of_not_act (by exact hflt) (by exact hact) _
  · exact exec_endStream_of_not_odd (by exact hflt) (by exact hact) (by exact hodd) _
  · simp [hodd] at hheld

/-- Settles O37: SAMPLE writes `STG` where it holds a nibble; every other command leaves `ODD` 0 and `STG` as it was. -/
theorem staleStagingIsUnread : Obligations.StaleStagingIsUnread := by
  intro i s t v hodd h
  cases i with
  | reserved data =>
    have has : t.AS = s.AS := by rw [frameOfReserved data s t h]
    rw [if_neg (by simp [exec_ODD_of_not_sample (by simp) hodd h]), has]
    exact exec_reserved_withStale h s.AS v
  | start rate =>
    rw [if_neg (by simp [exec_ODD_of_not_sample (by simp) hodd h]), exec_start_AS_of_opens h]
    exact exec_start_withStale h s.AS v
  | sample value => exact exec_sample_withSTG hodd h v
  | endStream data =>
    rw [if_neg (by simp [exec_ODD_of_not_sample (by simp) hodd h])]
    exact exec_endStream_withSTG hodd h v

end Sys2Proof.Machine
end

section
/-!
PROOFS. The invariants (10_state.md R24, 30_encoding.md R58): they hold after reset and every step keeps them.
-/

namespace Sys2Proof.Machine

variable {s t : State}

/-- Settles O38: the reset registers are all 0, and no stream is open. -/
theorem resetMeetsTheInvariants : Obligations.ResetMeetsTheInvariants := by
  refine ⟨⟨by decide, .inl rfl, fun hact => ?_, fun _ => rfl, by decide⟩, fun _ hact => ?_⟩
  all_goals simp [State.reset] at hact

/-! ## The register invariants -/

/-- A byte of a zero nibble above another is below 16. -/
theorem zero_append_toNat_lt (nib : Nibble) : (0#4 ++ nib : Byte).toNat < 16 := by
  revert nib; decide

/-- A resolved marker is one of the three, none of which is NONE (R50). -/
theorem resolve_marker {rate : Nat} {m : Byte} (h : resolve rate = some m) : m = 0x5F ∨ m = 0x59 ∨ m = 0x53 := by
  unfold resolve at h
  split_ifs at h
  · exact .inl (Option.some.inj h).symm
  · exact .inr (.inl (Option.some.inj h).symm)
  · exact .inr (.inr (Option.some.inj h).symm)

/-- Writing a listed fault code keeps the other registers' invariants; the sink's answers are in none of them. -/
theorem inv_setFLT {f : FaultCode} (hf : f.toNat ≤ 4) (h : s.Inv) : (s.setFLT f).Inv := by
  obtain ⟨hstg, hmrk, hactMrk, hactOdd, -⟩ := h
  exact ⟨hstg, hmrk, hactMrk, hactOdd, hf⟩

theorem inv_powerOnReset (s : State) : (powerOnReset s).Inv := by
  refine ⟨by simp [powerOnReset], .inl rfl, fun hact => ?_, fun _ => rfl, by simp [powerOnReset]⟩
  simp [powerOnReset] at hact

theorem exec_start_keeps_inv {rate : Nat} (hinv : s.Inv) (h : exec (.start rate) s = .next t) : t.Inv := by
  obtain ⟨-, rfl⟩ | ⟨-, -, rfl⟩ | ⟨-, -, -, rfl⟩ | ⟨-, -, m, hrate, ⟨-, rfl⟩ | ⟨-, rfl⟩⟩ := exec_start_next h
  · exact hinv
  · exact inv_setFLT (by decide) hinv
  · exact inv_setFLT (by decide) hinv
  · exact inv_setFLT (s := s.consumeAnswer) (by decide) hinv
  · obtain ⟨hstg, -, -, -, hflt⟩ := hinv
    have hm := resolve_marker hrate
    refine ⟨hstg, .inr hm, fun _ => ?_, fun hact => ?_, hflt⟩
    · obtain rfl | rfl | rfl := hm
      all_goals simp
    · simp at hact

/-- A second nibble is one inside a stream: clearing `ODD` there keeps the invariants. -/
theorem pairNibble_keeps_inv {nib : Nibble} (hinv : s.Inv) (h : pairNibble nib s = .next t) : t.Inv := by
  obtain ⟨hstg, hmrk, hactMrk, hactOdd, hflt⟩ := hinv
  have hpair : (s.countPair nib).Inv := ⟨hstg, hmrk, hactMrk, fun _ => rfl, hflt⟩
  obtain ⟨-, rfl⟩ | ⟨-, -, rfl⟩ | ⟨-, -, -, rfl⟩ | ⟨-, -, -, rfl⟩ := pairNibble_next h
  · exact ⟨hstg, hmrk, hactMrk, hactOdd, by simp⟩
  · exact hpair
  · exact hpair
  · exact inv_setFLT (s := (s.countPair nib).consumeAnswer) (by decide) hpair

theorem exec_sample_keeps_inv {value : Int} (hinv : s.Inv) (h : exec (.sample value) s = .next t) : t.Inv := by
  obtain ⟨-, rfl⟩ | ⟨-, -, rfl⟩ | ⟨-, hact, -, rfl⟩ | ⟨-, -, -, hpair⟩ := exec_sample_next h
  · exact hinv
  · exact inv_setFLT (by decide) hinv
  · obtain ⟨-, hmrk, hactMrk, -, hflt⟩ := hinv
    exact ⟨zero_append_toNat_lt _, hmrk, hactMrk, fun hclosed => by simp [hact] at hclosed, hflt⟩
  · exact pairNibble_keeps_inv (by exact hinv) hpair

theorem exec_endStream_keeps_inv {data : Nat} (hinv : s.Inv) (h : exec (.endStream data) s = .next t) : t.Inv := by
  have hclosed {u : State} (hu : u.Inv) (hodd : u.ODD = false) : (u.setACT false).Inv := by
    obtain ⟨hstg, hmrk, -, -, hflt⟩ := hu
    exact ⟨hstg, hmrk, fun hact => by simp at hact, fun _ => hodd, hflt⟩
  obtain ⟨-, rfl⟩ | ⟨-, -, rfl⟩ | ⟨-, -, hodd, rfl⟩ | ⟨-, -, -, ⟨-, rfl⟩ | ⟨-, rfl⟩⟩ := exec_endStream_next h
  · exact hinv
  · exact inv_setFLT (by decide) hinv
  · exact hclosed hinv hodd
  · exact inv_setFLT (s := s.consumeAnswer) (by decide) hinv
  · obtain ⟨hstg, hmrk, hactMrk, -, hflt⟩ := hinv
    exact hclosed ⟨hstg, hmrk, hactMrk, fun _ => rfl, hflt⟩ rfl

theorem exec_keeps_inv {i : Instr} (hinv : s.Inv) (h : exec i s = .next t) : t.Inv := by
  cases i with
  | reserved data =>
    obtain ⟨-, rfl⟩ | ⟨-, rfl⟩ := exec_reserved_next h
    · exact hinv
    · exact inv_setFLT (by decide) hinv
  | start rate => exact exec_start_keeps_inv hinv h
  | sample value => exact exec_sample_keeps_inv hinv h
  | endStream data => exact exec_endStream_keeps_inv hinv h

/-- Settles O39: the invariants say nothing of the inputs, reset establishes them, and every command keeps them. -/
theorem stepKeepsRegisterInvariants : Obligations.StepKeepsRegisterInvariants := by
  intro s t hinv h
  obtain ⟨-, rfl⟩ | ⟨rest, -, rfl⟩ | ⟨w, rest, -, hexec⟩ := step_next h
  · exact hinv
  · exact inv_powerOnReset _
  · exact exec_keeps_inv (s := { s with inputs := rest }) hinv hexec

/-! ## Data bytes and their markers -/

theorem withMarkers_append (m : Byte) (k : Nat) (xs ys : List Byte) :
    withMarkers m k (xs ++ ys) = withMarkers m k xs ++ withMarkers m (k + xs.length) ys := by
  induction xs generalizing k with
  | nil => rfl
  | cons x xs ih =>
    have hshift : k + (x :: xs).length = k + 1 + xs.length := by rw [List.length_cons]; omega
    rw [List.cons_append, withMarkers, withMarkers, hshift, ih]
    split <;> simp

theorem withMarkers_concat (m : Byte) (xs : List Byte) (x : Byte) :
    withMarkers m 0 (xs ++ [x]) = withMarkers m 0 xs ++ if (xs.length + 1) % 256 = 0 then [x, m] else [x] := by
  rw [withMarkers_append, Nat.zero_add, withMarkers]
  rfl

/-! ## The framing of an open stream -/

theorem framedBy_openStream (s : State) (m : Byte) :
    ((s.consumeAnswer.appendOut m).openStream m).FramedBy s.OUT [] :=
  ⟨rfl, rfl⟩

/-- A counter that holds `k` modulo 256 stands at 255 exactly where the next byte completes 256 (R96). -/
theorem eq_255_iff_wraps {c : Byte} {k : Nat} (h : c.toNat = k % 256) : c = 255 ↔ (k + 1) % 256 = 0 := by
  rw [← BitVec.toNat_inj, h]; simp; omega

/-- One more data byte accepted, with the marker behind it exactly where the counter stood at 255. -/
theorem framedBy_extend {before data : List Byte} {b : Byte} (hs : s.FramedBy before data) (hmrk : t.MRK = s.MRK)
    (hcnt : t.CNT = s.CNT + 1) (hout : t.OUT = s.OUT ++ if s.CNT = 255 then [b, s.MRK] else [b]) :
    t.FramedBy before (data ++ [b]) := by
  obtain ⟨hsout, hscnt⟩ := hs
  have hwrap := eq_255_iff_wraps hscnt
  constructor
  · rw [hout, hmrk, withMarkers_concat, hsout]
    simp only [hwrap, List.append_assoc, List.cons_append]
  · rw [hcnt, BitVec.toNat_add, hscnt]; simp

theorem pairNibble_ODD {nib : Nibble} (h : pairNibble nib s = .next t) (hflt : t.FLT = 0) : t.ODD = false := by
  obtain ⟨-, rfl⟩ | ⟨-, -, rfl⟩ | ⟨-, -, -, rfl⟩ | ⟨-, -, -, rfl⟩ := pairNibble_next h
  · simp at hflt
  all_goals rfl

/-- A second nibble that leaves no fault was accepted, marker and all. -/
theorem pairNibble_extends_framing {nib : Nibble} {before data : List Byte} (h : pairNibble nib s = .next t)
    (hflt : t.FLT = 0) (hs : s.FramedBy before data) : t.FramedBy before (data ++ [packPair s.STG nib]) := by
  obtain ⟨-, rfl⟩ | ⟨-, hcnt, rfl⟩ | ⟨-, hcnt, -, rfl⟩ | ⟨-, -, -, rfl⟩ := pairNibble_next h
  · simp at hflt
  · exact framedBy_extend hs rfl rfl (by rw [if_neg hcnt]; rfl)
  · exact framedBy_extend hs rfl rfl (by rw [if_pos hcnt]; simp)
  · simp at hflt

/-- What the framing statement's second part says of a step from `s` to an open, fault-free `t`: either it opened the stream, or it
extended the data bytes of the one that was open. -/
def State.FramingGoesOn (s t : State) : Prop :=
  (s.ACT = false → t.FramedBy s.OUT []) ∧
  (s.ACT = true → ∀ before data, s.FramedBy before data →
    ∃ new, t.FramedBy before (data ++ new) ∧ new.length = if s.ODD = true ∧ t.ODD = false then 1 else 0)

theorem framingGoesOn_of_opens (hclosed : s.ACT = false) (h : t.FramedBy s.OUT []) : s.FramingGoesOn t :=
  ⟨fun _ => h, fun hopen => by simp [hclosed] at hopen⟩

theorem framingGoesOn_of_pair (hopen : s.ACT = true) (hodd : s.ODD = true) (hpaired : t.ODD = false) {b : Byte}
    (h : ∀ before data, s.FramedBy before data → t.FramedBy before (data ++ [b])) : s.FramingGoesOn t :=
  ⟨fun hclosed => by simp [hopen] at hclosed,
    fun _ before data hs => ⟨[b], h before data hs, by simp [hodd, hpaired]⟩⟩

theorem framingGoesOn_of_same (hopen : s.ACT = true) (hodd : ¬(s.ODD = true ∧ t.ODD = false))
    (h : ∀ before data, s.FramedBy before data → t.FramedBy before data) : s.FramingGoesOn t := by
  refine ⟨fun hclosed => by simp [hopen] at hclosed, fun _ before data hs => ⟨[], ?_, by rw [if_neg hodd]; rfl⟩⟩
  rw [List.append_nil]
  exact h before data hs

theorem exec_framingGoesOn {i : Instr} (h : exec i s = .next t) (hflt : t.FLT = 0) (hact : t.ACT = true) :
    s.FramingGoesOn t := by
  cases i with
  | reserved data =>
    obtain ⟨hfault, rfl⟩ | ⟨-, rfl⟩ := exec_reserved_next h
    · exact absurd hflt hfault
    · simp at hflt
  | start rate =>
    obtain ⟨hfault, rfl⟩ | ⟨-, -, rfl⟩ | ⟨-, -, -, rfl⟩ | ⟨-, hclosed, m, -, ⟨-, rfl⟩ | ⟨-, rfl⟩⟩ := exec_start_next h
    · exact absurd hflt hfault
    · simp at hflt
    · simp at hflt
    · simp at hflt
    · exact framingGoesOn_of_opens hclosed (framedBy_openStream s m)
  | sample value =>
    obtain ⟨hfault, rfl⟩ | ⟨-, -, rfl⟩ | ⟨-, hopen, hodd, rfl⟩ | ⟨-, hopen, hodd, hpair⟩ := exec_sample_next h
    · exact absurd hflt hfault
    · simp at hflt
    · exact framingGoesOn_of_same hopen (by simp [hodd]) fun _ _ hs => hs
    · exact framingGoesOn_of_pair hopen hodd (pairNibble_ODD hpair hflt)
        fun _ _ hs => pairNibble_extends_framing hpair hflt hs
  | endStream data =>
    obtain ⟨hfault, rfl⟩ | ⟨-, -, rfl⟩ | ⟨-, -, -, rfl⟩ | ⟨-, -, -, ⟨-, rfl⟩ | ⟨-, rfl⟩⟩ := exec_endStream_next h
    · exact absurd hflt hfault
    · simp at hflt
    · simp at hact
    · simp at hflt
    · simp at hact

theorem step_framingGoesOn (h : step s = .next t) (hflt : t.FLT = 0) (hact : t.ACT = true) : s.FramingGoesOn t := by
  obtain ⟨-, rfl⟩ | ⟨rest, -, rfl⟩ | ⟨w, rest, -, hexec⟩ := step_next h
  · exact framingGoesOn_of_same hact (by simp) fun _ _ hs => hs
  · simp [powerOnReset] at hact
  · exact exec_framingGoesOn (s := { s with inputs := rest }) hexec hflt hact

/-- Settles O40: a step that ends with a stream open and no fault starts without one, for `rst` closes the stream; so the
statement's first part follows from the second. -/
theorem stepKeepsStreamFraming : Obligations.StepKeepsStreamFraming := by
  refine ⟨fun s t hs h hflt hact => ?_, fun s t h hflt hact => step_framingGoesOn h hflt hact⟩
  obtain ⟨hopens, hextends⟩ := step_framingGoesOn h hflt hact
  cases hopen : s.ACT with
  | false => exact ⟨_, _, hopens hopen⟩
  | true =>
    have hok : s.FLT = 0 := by
      by_contra hfault
      obtain ⟨rest, hinputs⟩ := inputs_rst_of_clears_fault h hfault hflt
      rw [step_rst hinputs] at h
      cases h
      simp [powerOnReset] at hact
    obtain ⟨before, data, hframed⟩ := hs hok hopen
    obtain ⟨new, hnew, -⟩ := hextends hopen before data hframed
    exact ⟨before, _, hnew⟩

end Sys2Proof.Machine
end

section
/-!
PROOFS. One whole stream (41_packer.md section 7): the shape of its bytes, and the run of its commands as one state.
-/

namespace Sys2Proof.Machine

/-! ## The lengths of a stream's parts (R102) -/

@[simp] theorem length_nibbles (t : Tables) (a : Nibble) (samples : List (BitVec 16)) :
    (nibbles t a samples).length = samples.length := by
  induction samples generalizing a with
  | nil => rfl
  | cons d ds ih => rw [nibbles, List.length_cons, ih, List.length_cons]

@[simp] theorem length_pairedBytes (qs : List Nibble) : (pairedBytes qs).length = qs.length / 2 := by
  induction qs using pairedBytes.induct with
  | case1 q q' qs ih => rw [pairedBytes, List.length_cons, ih, List.length_cons, List.length_cons]; omega
  | case2 q => simp [pairedBytes]
  | case3 => rfl

@[simp] theorem length_paddedByte (qs : List Nibble) : (paddedByte qs).length = qs.length % 2 := by
  induction qs using paddedByte.induct with
  | case1 q q' qs ih => rw [paddedByte, ih, List.length_cons, List.length_cons]; omega
  | case2 q => rfl
  | case3 => rfl

@[simp] theorem length_withMarkers (m : Byte) (k : Nat) (bs : List Byte) :
    (withMarkers m k bs).length = bs.length + ((k + bs.length) / 256 - k / 256) := by
  induction bs generalizing k with
  | nil => simp [withMarkers]
  | cons b bs ih =>
    rw [withMarkers, List.length_cons]
    split <;> simp only [List.length_cons, ih] <;> omega

theorem length_packStream (t : Tables) (m : Byte) (samples : List (BitVec 16)) :
    (packStream t m samples).length = streamLength samples.length := by
  simp only [packStream, streamLength, List.length_cons, List.length_append, length_withMarkers, length_pairedBytes,
    length_paddedByte, length_nibbles]
  omega

/-! ## Where the data bytes and the markers stand (R103, R104) -/

theorem withMarkers_split (m : Byte) (xs : List Byte) {k : Nat} (hk : k < xs.length) :
    withMarkers m 0 xs = withMarkers m 0 (xs.take k) ++ withMarkers m k (xs[k] :: xs.drop (k + 1)) := by
  rw [← List.drop_eq_getElem_cons hk]
  conv_lhs => rw [← List.take_append_drop k xs, withMarkers_append]
  rw [Nat.zero_add, List.length_take_of_le hk.le]

theorem length_withMarkers_take (m : Byte) (xs : List Byte) {k : Nat} (hk : k < xs.length) :
    (withMarkers m 0 (xs.take k)).length = k + k / 256 := by
  rw [length_withMarkers, List.length_take_of_le hk.le]; omega

/-- Before data byte `k` stand `k` data bytes and a marker after each 256th of them. -/
theorem withMarkers_getElem?_data (m : Byte) (xs : List Byte) {k : Nat} (hk : k < xs.length) :
    (withMarkers m 0 xs)[k + k / 256]? = xs[k]? := by
  rw [withMarkers_split m xs hk, List.getElem?_append_right (length_withMarkers_take m xs hk).le,
    length_withMarkers_take m xs hk, withMarkers, Nat.sub_self, List.getElem?_eq_getElem hk]
  split <;> rfl

/-- Behind a data byte that completes 256 stands the marker. -/
theorem withMarkers_getElem?_marker (m : Byte) (xs : List Byte) {k : Nat} (hk : k < xs.length)
    (hwrap : (k + 1) % 256 = 0) : (withMarkers m 0 xs)[k + k / 256 + 1]? = some m := by
  rw [withMarkers_split m xs hk,
    List.getElem?_append_right (by rw [length_withMarkers_take m xs hk]; exact Nat.le_succ _),
    length_withMarkers_take m xs hk, withMarkers, if_pos hwrap, Nat.add_sub_cancel_left]
  rfl

/-- The `j`-th marker of a stream, its first byte being the 0-th. -/
theorem packStream_getElem?_marker (t : Tables) (m : Byte) (samples : List (BitVec 16)) {j : Nat}
    (hj : j ≤ samples.length / 2 / 256) : (packStream t m samples)[257 * j]? = some m := by
  cases j with
  | zero => rfl
  | succ j =>
    have hlast : 256 * j + 255 < (pairedBytes (nibbles t 0 samples)).length := by simp; omega
    have hmark := withMarkers_getElem?_marker m _ hlast (by omega)
    have hpos : 257 * (j + 1) = 256 * j + 255 + (256 * j + 255) / 256 + 1 + 1 := by omega
    have hin := (List.getElem?_eq_some_iff.mp hmark).1
    rw [packStream, hpos, List.getElem?_cons_succ, List.getElem?_append_left hin, hmark]

theorem pairedBytes_getElem? (qs : List Nibble) {k : Nat} (hk : 2 * k + 1 < qs.length) :
    (pairedBytes qs)[k]? = some (qs.getD (2 * k) 0 ++ qs.getD (2 * k + 1) 0) := by
  induction qs using pairedBytes.induct generalizing k with
  | case1 q q' qs ih =>
    cases k with
    | zero => rfl
    | succ k => exact ih (by simp at hk; omega)
  | case2 q => simp at hk
  | case3 => simp at hk

theorem paddedByte_of_odd (qs : List Nibble) (hodd : qs.length % 2 = 1) :
    paddedByte qs = [qs.getD (qs.length - 1) 0 ++ 0b0000#4] := by
  induction qs using paddedByte.induct with
  | case1 q q' qs ih =>
    have hrest : qs.length % 2 = 1 := by rw [List.length_cons, List.length_cons] at hodd; omega
    obtain ⟨n, hn⟩ : ∃ n, qs.length = n + 1 := ⟨qs.length - 1, by omega⟩
    rw [paddedByte, ih hrest]
    simp [hn]
  | case2 q => rfl
  | case3 => simp at hodd

/-- Data byte `k` of a stream: a full pair, or the padded single behind all pairs. -/
theorem packStream_getElem?_data (t : Tables) (m : Byte) (samples : List (BitVec 16)) {k : Nat}
    (hk : 2 * k < samples.length) :
    (packStream t m samples)[k + 1 + k / 256]? =
      some ((nibbles t 0 samples).getD (2 * k) 0 ++
        (if 2 * k + 1 < samples.length then (nibbles t 0 samples).getD (2 * k + 1) 0 else 0b0000#4)) := by
  rw [packStream, Nat.add_right_comm, List.getElem?_cons_succ]
  by_cases hpair : 2 * k + 1 < samples.length
  case pos =>
    have hdata := withMarkers_getElem?_data m (pairedBytes (nibbles t 0 samples)) (k := k) (by simp; omega)
    rw [pairedBytes_getElem? _ (by simpa using hpair)] at hdata
    have hin := (List.getElem?_eq_some_iff.mp hdata).1
    rw [List.getElem?_append_left hin, hdata, if_pos hpair]
  case neg =>
    have hlen : samples.length = 2 * k + 1 := by omega
    have hend : (withMarkers m 0 (pairedBytes (nibbles t 0 samples))).length = k + k / 256 := by simp [hlen]; omega
    rw [if_neg hpair, paddedByte_of_odd _ (by simp [hlen]), List.getElem?_append_right hend.le, hend]
    simp [hlen]

theorem packStream_getLast?_of_odd (t : Tables) (m : Byte) (samples : List (BitVec 16)) (hodd : samples.length % 2 = 1) :
    ∃ q : Nibble, (packStream t m samples).getLast? = some (q ++ 0b0000#4) := by
  rw [packStream, paddedByte_of_odd _ (by simpa using hodd), ← List.cons_append]
  exact ⟨_, List.getLast?_concat⟩

end Sys2Proof.Machine
end

section
/-!
PROOFS. The run of a stream's commands (41_packer.md R105, R106): a command at a time while the sink accepts, then by induction on
the samples, two at a time as the bytes pair them.
-/

namespace Sys2Proof.Machine

/-! ## Bytes accepted -/

/-- The bytes `bs` offered and all accepted (20_memory.md R32). -/
def State.accepted (s : State) (bs : List Byte) : State :=
  { s with OUT := s.OUT ++ bs, answers := s.answers.drop bs.length, offered := s.offered + bs.length }

theorem accepted_answerAt (s : State) (bs : List Byte) (k : Nat) :
    (s.accepted bs).answerAt k = s.answerAt (bs.length + k) := by
  simp [State.accepted, State.answerAt, List.getD_eq_getElem?_getD, Nat.add_assoc]

theorem acceptsNext_mono {s : State} {n n' : Nat} (h : s.acceptsNext n') (hle : n ≤ n') : s.acceptsNext n :=
  fun k hk => h k (by omega)

theorem accepted_acceptsNext {s : State} {bs : List Byte} {n : Nat} (h : s.acceptsNext (bs.length + n)) :
    (s.accepted bs).acceptsNext n :=
  fun k hk => by rw [accepted_answerAt]; exact h _ (by omega)

/-! ## One command of a stream -/

section commands

variable {s : State} {rest : List Input}

theorem steps_succ {s t : State} (h : step s = .next t) (n : Nat) : steps (n + 1) s = steps n t := by
  rw [steps, h]

/-- The state after START's marker is accepted. -/
def State.afterStart (s : State) (m : Byte) (rest : List Input) : State :=
  State.accepted { s with MRK := m, AS := 0, CNT := 0, ODD := false, ACT := true, inputs := rest } [m]

theorem step_start {rate : BitVec 16} {m : Byte} (hinputs : s.inputs = .command (cmdWord 0b01#2 rate) :: rest)
    (hrate : (rate, m) ∈ [(5000#16, 0x5F#8), (6000#16, 0x59#8), (8000#16, 0x53#8)]) (hflt : s.FLT = 0)
    (hact : s.ACT = false) (hok : s.acceptsNext 1) :
    step s = .next (s.afterStart m rest) := by
  have hmem : (rate.toNat, m) ∈ [(5000, 0x5F#8), (6000, 0x59#8), (8000, 0x53#8)] := by
    simp only [List.mem_cons, Prod.mk.injEq, List.not_mem_nil, or_false] at hrate ⊢
    obtain ⟨rfl, rfl⟩ | ⟨rfl, rfl⟩ | ⟨rfl, rfl⟩ := hrate
    all_goals simp
  obtain ⟨-, -, -, hopens⟩ := startCommandRule rate.toNat { s with inputs := rest }
  rw [stepExecutesDecodedCommand s _ rest hinputs, decode_cmdWord_start,
    (hopens m hmem hflt hact).2 (hok 0 (by decide))]
  simp [State.afterStart, State.accepted]

/-- The lower half of the staging register is the nibble it holds. -/
theorem extractLsb'_zero_append (q : Nibble) : (0#4 ++ q : Byte).extractLsb' 0 4 = q :=
  BitVec.extractLsb'_append_eq_right

/-- The state after the first sample of a pair. -/
def State.afterFirst (s : State) (d : BitVec 16) (rest : List Input) : State :=
  { s with
    AS := (encodeSample s.tables d.toInt s.AS.int).2, STG := 0#4 ++ (encodeSample s.tables d.toInt s.AS.int).1,
    ODD := true, inputs := rest }

theorem step_sample_held {d : BitVec 16} (hinputs : s.inputs = .command (cmdWord 0b10#2 d) :: rest) (hflt : s.FLT = 0)
    (hact : s.ACT = true) (hodd : s.ODD = false) :
    step s = .next (s.afterFirst d rest) := by
  obtain ⟨-, -, hheld, -⟩ := sampleCommandRule d.toInt { s with inputs := rest } _ _ Prod.mk.eta.symm
  rw [stepExecutesDecodedCommand s _ rest hinputs, decode_cmdWord_sample, hheld hflt hact hodd]
  rfl

/-- A second nibble: the data byte that completes the pair, with the marker behind each 256th. -/
theorem step_sample_paired {d : BitVec 16} (hinputs : s.inputs = .command (cmdWord 0b10#2 d) :: rest) (hflt : s.FLT = 0)
    (hact : s.ACT = true) (hodd : s.ODD = true) {k : Nat} (hcnt : s.CNT.toNat = k % 256) {bs : List Byte}
    (hbs : bs = withMarkers s.MRK k [s.STG.extractLsb' 0 4 ++ (encodeSample s.tables d.toInt s.AS.int).1])
    (hok : s.acceptsNext bs.length) :
    step s = .next (State.accepted
      { s with AS := (encodeSample s.tables d.toInt s.AS.int).2, CNT := s.CNT + 1, ODD := false, inputs := rest } bs) := by
  have hwrap := eq_255_iff_wraps hcnt
  obtain ⟨-, -, -, -, hpaired, hmarked, -⟩ := sampleCommandRule d.toInt { s with inputs := rest } _ _ Prod.mk.eta.symm
  rw [stepExecutesDecodedCommand s _ rest hinputs, decode_cmdWord_sample]
  by_cases h255 : s.CNT = 255
  case pos =>
    rw [withMarkers, if_pos (hwrap.mp h255)] at hbs
    subst hbs
    rw [hmarked hflt hact hodd (hok 0 (by simp)) h255 (hok 1 (by simp [withMarkers]))]
    have htail : s.answers.tail.tail = s.answers.drop 2 := by rw [← List.drop_one, ← List.drop_one, List.drop_drop]
    simp [State.accepted, withMarkers, h255, Nibble.int, htail]
  case neg =>
    rw [withMarkers, if_neg (mt hwrap.mpr h255)] at hbs
    subst hbs
    rw [hpaired hflt hact hodd (hok 0 (by simp)) h255]
    simp [State.accepted, withMarkers, Nibble.int]

theorem step_end_empty {data : BitVec 16} (hinputs : s.inputs = .command (cmdWord 0b11#2 data) :: rest) (hflt : s.FLT = 0)
    (hact : s.ACT = true) (hodd : s.ODD = false) : step s = .next { s with ACT := false, inputs := rest } := by
  obtain ⟨-, -, hempty, -⟩ := endCommandRule data.toNat { s with inputs := rest }
  rw [stepExecutesDecodedCommand s _ rest hinputs, decode_cmdWord_endStream, hempty hflt hact hodd]

theorem step_end_held {data : BitVec 16} (hinputs : s.inputs = .command (cmdWord 0b11#2 data) :: rest) (hflt : s.FLT = 0)
    (hact : s.ACT = true) (hodd : s.ODD = true) (hok : s.acceptsNext 1) :
    step s = .next (State.accepted
      { s with ODD := false, ACT := false, inputs := rest } [s.STG.extractLsb' 0 4 ++ 0b0000#4]) := by
  obtain ⟨-, -, -, hheld, -⟩ := endCommandRule data.toNat { s with inputs := rest }
  rw [stepExecutesDecodedCommand s _ rest hinputs, decode_cmdWord_endStream, hheld hflt hact hodd (hok 0 (by decide))]
  simp [State.accepted]

end commands

/-! ## The samples and the end of a stream -/

/-- The bytes of the samples from adaptation state `a`, `k` data bytes having gone before. -/
def sampleBytes (t : Tables) (m : Byte) (k : Nat) (a : Nibble) (samples : List (BitVec 16)) : List Byte :=
  withMarkers m k (pairedBytes (nibbles t a samples)) ++ paddedByte (nibbles t a samples)

/-- The staging register after nibbles that begin at the first of a pair: the last first nibble, if there is one. -/
def stagingAfter (stg : Byte) : List Nibble → Byte
  | q :: _ :: qs => stagingAfter (0#4 ++ q) qs
  | [q]          => 0#4 ++ q
  | []           => stg

/-- The state after the two samples of a pair, `k` data bytes having gone before. -/
def State.afterPair (s : State) (k : Nat) (d d' : BitVec 16) (rest : List Input) : State :=
  let e  := encodeSample s.tables d.toInt s.AS.int
  let e' := encodeSample s.tables d'.toInt e.2.int
  State.accepted { s with AS := e'.2, STG := 0#4 ++ e.1, CNT := s.CNT + 1, inputs := rest }
    (withMarkers s.MRK k [e.1 ++ e'.1])

/-- The state after the samples and END of an open stream with no nibble held, `k` data bytes having gone before. -/
def State.afterSamples (s : State) (k : Nat) (samples : List (BitVec 16)) (rest : List Input) : State :=
  State.accepted
    { s with
      AS := stateAfter s.tables s.AS samples, STG := stagingAfter s.STG (nibbles s.tables s.AS samples),
      CNT := s.CNT + BitVec.ofNat 8 (samples.length / 2), ACT := false, inputs := rest }
    (sampleBytes s.tables s.MRK k s.AS samples)

theorem steps_pair {s : State} {d d' : BitVec 16} {rest : List Input}
    (hinputs : s.inputs = .command (cmdWord 0b10#2 d) :: .command (cmdWord 0b10#2 d') :: rest) (hflt : s.FLT = 0)
    (hact : s.ACT = true) (hodd : s.ODD = false) {k : Nat} (hcnt : s.CNT.toNat = k % 256)
    (hok : s.acceptsNext (1 + ((k + 1) / 256 - k / 256))) (n : Nat) :
    steps (n + 2) s = steps n (s.afterPair k d d' rest) := by
  have hheld := step_sample_held hinputs hflt hact hodd
  have hpaired := step_sample_paired (s := s.afterFirst d (.command (cmdWord 0b10#2 d') :: rest)) rfl hflt hact rfl hcnt
    rfl (by rw [length_withMarkers]; exact hok)
  rw [steps_succ hheld (n + 1), steps_succ hpaired n]
  simp [State.afterPair, State.afterFirst, hodd, extractLsb'_zero_append]

theorem sampleBytes_cons_cons (t : Tables) (m : Byte) (k : Nat) (a : Nibble) (d d' : BitVec 16) (ds : List (BitVec 16)) :
    sampleBytes t m k a (d :: d' :: ds) =
      withMarkers m k
        [(encodeSample t d.toInt a.int).1 ++ (encodeSample t d'.toInt (encodeSample t d.toInt a.int).2.int).1] ++
      sampleBytes t m (k + 1) (encodeSample t d'.toInt (encodeSample t d.toInt a.int).2.int).2 ds := by
  rw [sampleBytes, sampleBytes, nibbles, nibbles, pairedBytes, paddedByte, ← List.append_assoc]
  congr 1
  exact withMarkers_append m k [_] _

theorem afterSamples_cons_cons (s : State) (k : Nat) (d d' : BitVec 16) (ds : List (BitVec 16)) (rest rest' : List Input) :
    s.afterSamples k (d :: d' :: ds) rest = (s.afterPair k d d' rest').afterSamples (k + 1) ds rest := by
  simp [State.afterSamples, State.afterPair, State.accepted, sampleBytes_cons_cons, nibbles, stateAfter, stagingAfter,
    BitVec.ofNat_add, BitVec.add_assoc, BitVec.add_comm, Nat.add_assoc]

theorem steps_samples_end {endData : BitVec 16} {rest : List Input} :
    ∀ (samples : List (BitVec 16)) (k : Nat) (s : State),
      s.FLT = 0 → s.ACT = true → s.ODD = false → s.CNT.toNat = k % 256 →
      s.inputs = samples.map (fun d => Input.command (cmdWord 0b10#2 d)) ++ .command (cmdWord 0b11#2 endData) :: rest →
      s.acceptsNext (sampleBytes s.tables s.MRK k s.AS samples).length →
      steps (samples.length + 1) s = .next (s.afterSamples k samples rest)
  | [], k, s, hflt, hact, hodd, hcnt, hinputs, hok => by
    rw [steps_succ (step_end_empty hinputs hflt hact hodd)]
    simp [steps, State.afterSamples, State.accepted, sampleBytes, nibbles, stateAfter, stagingAfter, pairedBytes,
      paddedByte, withMarkers]
  | [d], k, s, hflt, hact, hodd, hcnt, hinputs, hok => by
    have hheld := step_sample_held hinputs hflt hact hodd
    have hend := step_end_held (s := s.afterFirst d (.command (cmdWord 0b11#2 endData) :: rest)) rfl hflt hact rfl hok
    refine (steps_succ hheld 1).trans ((steps_succ hend 0).trans ?_)
    simp [steps, State.afterFirst, State.afterSamples, State.accepted, sampleBytes, nibbles, stateAfter, stagingAfter, pairedBytes,
      paddedByte, withMarkers, hodd, extractLsb'_zero_append]
  | d :: d' :: ds, k, s, hflt, hact, hodd, hcnt, hinputs, hok => by
    rw [sampleBytes_cons_cons, List.length_append] at hok
    have hpair := acceptsNext_mono hok (Nat.le_add_right _ _)
    rw [length_withMarkers] at hpair
    refine (steps_pair hinputs hflt hact hodd hcnt hpair _).trans ?_
    rw [afterSamples_cons_cons]
    refine steps_samples_end ds (k + 1) _ hflt hact hodd ?_ rfl ?_
    · simp [State.afterPair, State.accepted, hcnt]
    · exact accepted_acceptsNext hok

/-! ## The whole stream -/

/-- The state after a stream's commands (R105, R106). -/
def State.afterStream (s : State) (m : Byte) (samples : List (BitVec 16)) (rest : List Input) : State :=
  State.accepted
    { s with
      AS := stateAfter s.tables 0 samples, STG := stagingAfter s.STG (nibbles s.tables 0 samples),
      CNT := BitVec.ofNat 8 (samples.length / 2), ODD := false, MRK := m, ACT := false, inputs := rest }
    (packStream s.tables m samples)

section stream

variable {s : State} {rate : BitVec 16} {m : Byte} {samples : List (BitVec 16)} {endData : BitVec 16} {rest : List Input}

theorem streamInputs_append :
    streamInputs rate samples endData ++ rest =
      .command (cmdWord 0b01#2 rate) ::
        (samples.map (fun d => Input.command (cmdWord 0b10#2 d)) ++ .command (cmdWord 0b11#2 endData) :: rest) := by
  simp [streamInputs]

theorem steps_stream (h : s.startsStream rate m samples endData rest) :
    steps (samples.length + 2) s = .next (s.afterStream m samples rest) := by
  obtain ⟨hflt, hact, hinputs, hrate, hok⟩ := h
  rw [streamInputs_append] at hinputs
  rw [← length_packStream s.tables m, packStream, List.length_cons, Nat.add_comm] at hok
  have hstart := step_start hinputs hrate hflt hact (acceptsNext_mono hok (Nat.le_add_right _ _))
  have hsamples := steps_samples_end (endData := endData) (rest := rest) samples 0 (s.afterStart m _) hflt rfl rfl rfl
    rfl (accepted_acceptsNext hok)
  rw [steps_succ hstart, hsamples]
  simp [State.afterSamples, State.afterStart, State.afterStream, State.accepted, sampleBytes, packStream, Nat.add_assoc,
    Nat.add_comm]

theorem afterStream_OUT : (s.afterStream m samples rest).OUT = s.OUT ++ packStream s.tables m samples := rfl

theorem afterStream_OUT_getElem? (i : Nat) :
    (s.afterStream m samples rest).OUT[s.OUT.length + i]? = (packStream s.tables m samples)[i]? := by
  rw [afterStream_OUT, List.getElem?_append_right (Nat.le_add_right _ _), Nat.add_sub_cancel_left]

/-- Settles O41: the run of the stream, its bytes counted by `length_packStream`. -/
theorem streamAppendsPackedBytes : Obligations.StreamAppendsPackedBytes := by
  intro s rate m samples endData rest h
  refine ⟨_, steps_stream h, rfl, rfl, ?_⟩
  rw [← length_packStream s.tables m]
  rfl

/-- Settles O42: the length of the bytes O41 appends. -/
theorem streamHasItsLength : Obligations.StreamHasItsLength := by
  intro s rate m samples endData rest h
  refine ⟨_, steps_stream h, ?_⟩
  rw [afterStream_OUT, List.length_append, length_packStream, streamLength]

/-- Settles O43: the markers of the bytes O41 appends. -/
theorem streamMarkersStandEvery257Bytes : Obligations.StreamMarkersStandEvery257Bytes := by
  intro s rate m samples endData rest h
  refine ⟨_, steps_stream h, fun j hj => ?_⟩
  rw [afterStream_OUT_getElem?]
  exact packStream_getElem?_marker s.tables m samples hj

/-- Settles O44: the data bytes of the bytes O41 appends. -/
theorem streamDataBytesHoldTheirNibbles : Obligations.StreamDataBytesHoldTheirNibbles := by
  intro s rate m samples endData rest h
  refine ⟨_, steps_stream h, length_nibbles _ _ _, fun k hk => ?_⟩
  rw [afterStream_OUT_getElem?]
  exact packStream_getElem?_data s.tables m samples hk

theorem stagingAfter_eq_getD (stg : Byte) (qs : List Nibble) (hne : qs ≠ []) :
    stagingAfter stg qs = 0#4 ++ qs.getD ((qs.length - 1) / 2 * 2) 0 := by
  induction stg, qs using stagingAfter.induct with
  | case1 stg q q' qs ih =>
    rw [stagingAfter]
    cases qs with
    | nil => simp [stagingAfter]
    | cons r rs =>
      have hindex : ((q :: q' :: r :: rs).length - 1) / 2 * 2 = ((r :: rs).length - 1) / 2 * 2 + 2 := by simp; omega
      rw [ih (by simp), hindex]
      rfl
  | case2 stg q => simp [stagingAfter]
  | case3 stg => exact absurd rfl hne

/-- Settles O45: the registers of the state O41's run ends in. -/
theorem streamEndState : Obligations.StreamEndState := by
  intro s rate m samples endData rest h
  have ⟨hflt, _⟩ := h
  refine ⟨_, steps_stream h, rfl, rfl, hflt, rfl, rfl, BitVec.toNat_ofNat _ _, ?_⟩
  split
  next hempty => subst hempty; rfl
  next hne =>
    have hnibbles : nibbles s.tables 0 samples ≠ [] :=
      List.ne_nil_of_length_pos (by rw [length_nibbles]; exact List.length_pos_iff.mpr hne)
    rw [← length_nibbles s.tables 0 samples]
    exact stagingAfter_eq_getD _ _ hnibbles

/-- Settles O46: the padded byte is the last of an odd stream. -/
theorem oddStreamEndsInAZeroNibble : Obligations.OddStreamEndsInAZeroNibble := by
  intro s rate m samples endData rest h hodd
  obtain ⟨q, hlast⟩ := packStream_getLast?_of_odd s.tables m samples hodd
  refine ⟨_, q ++ 0b0000#4, steps_stream h, ?_, BitVec.extractLsb'_append_eq_right⟩
  rw [afterStream_OUT, List.getLast?_append, hlast]
  rfl

end stream

end Sys2Proof.Machine
end

section
/-!
PROOFS. The law of the unfinished output (60_exceptions.md R119, 92_eei_decisions.md D14): a run under any sink beside the run of the same inputs
under a sink that accepts.
-/

namespace Sys2Proof.Machine

variable {s t : State}

/-! ## What a run takes from its inputs and from the sink -/

theorem exec_inputs {i : Instr} (h : exec i s = .next t) : t.inputs = s.inputs := by
  cases i with
  | reserved data => rw [frameOfReserved data s t h]
  | start rate =>
    obtain ⟨-, -, hinputs, -⟩ := frameOfStart rate s t h
    exact hinputs
  | sample value =>
    obtain ⟨-, -, -, hinputs, -⟩ := frameOfSample value s t h
    exact hinputs
  | endStream data =>
    obtain ⟨-, -, -, -, -, hinputs, -⟩ := frameOfEnd data s t h
    exact hinputs

theorem step_inputs (h : step s = .next t) : t.inputs = s.inputs.tail := by
  obtain ⟨hinputs, rfl⟩ | ⟨rest, hinputs, rfl⟩ | ⟨w, rest, hinputs, hexec⟩ := step_next h
  · rw [hinputs]; rfl
  · rw [hinputs]; rfl
  · rw [hinputs]; exact exec_inputs hexec

theorem step_keeps_rst_free (hfree : ∀ x ∈ s.inputs, x ≠ .rst) (h : step s = .next t) : ∀ x ∈ t.inputs, x ≠ .rst := by
  rw [step_inputs h]
  exact fun x hx => hfree x (List.mem_of_mem_tail hx)

/-- A second nibble offers one byte or two. -/
theorem pairNibble_answerAt {nib : Nibble} (h : pairNibble nib s = .next t) :
    ∃ d ≤ 2, ∀ k, t.answerAt k = s.answerAt (k + d) := by
  obtain ⟨-, rfl⟩ | ⟨-, -, rfl⟩ | ⟨-, -, -, rfl⟩ | ⟨-, -, -, rfl⟩ := pairNibble_next h
  · exact ⟨1, by decide, by simp⟩
  · exact ⟨1, by decide, by simp⟩
  · exact ⟨2, by decide, by simp⟩
  · exact ⟨2, by decide, by simp⟩

/-- A command uses up at most two of the sink's answers. -/
theorem exec_answerAt {i : Instr} (h : exec i s = .next t) : ∃ d ≤ 2, ∀ k, t.answerAt k = s.answerAt (k + d) := by
  cases i with
  | reserved data =>
    obtain ⟨-, rfl⟩ | ⟨-, rfl⟩ := exec_reserved_next h
    all_goals exact ⟨0, by decide, by simp⟩
  | start rate =>
    obtain ⟨-, rfl⟩ | ⟨-, -, rfl⟩ | ⟨-, -, -, rfl⟩ | ⟨-, -, m, -, hemitted⟩ := exec_start_next h
    case inr.inr.inr =>
      obtain ⟨-, rfl⟩ | ⟨-, rfl⟩ := hemitted
      all_goals exact ⟨1, by decide, by simp⟩
    all_goals exact ⟨0, by decide, by simp⟩
  | sample value =>
    obtain ⟨-, rfl⟩ | ⟨-, -, rfl⟩ | ⟨-, -, -, rfl⟩ | ⟨-, -, -, hpair⟩ := exec_sample_next h
    case inr.inr.inr =>
      obtain ⟨d, hd, hused⟩ := pairNibble_answerAt hpair
      exact ⟨d, hd, by simpa using hused⟩
    all_goals exact ⟨0, by decide, by simp⟩
  | endStream data =>
    obtain ⟨-, rfl⟩ | ⟨-, -, rfl⟩ | ⟨-, -, -, rfl⟩ | ⟨-, -, -, hemitted⟩ := exec_endStream_next h
    case inr.inr.inr =>
      obtain ⟨-, rfl⟩ | ⟨-, rfl⟩ := hemitted
      all_goals exact ⟨1, by decide, by simp⟩
    all_goals exact ⟨0, by decide, by simp⟩

theorem step_acceptsNext {n : Nat} (hok : s.acceptsNext (n + 2)) (h : step s = .next t) : t.acceptsNext n := by
  obtain ⟨-, rfl⟩ | ⟨rest, -, rfl⟩ | ⟨w, rest, -, hexec⟩ := step_next h
  · exact acceptsNext_mono hok (Nat.le_add_right _ _)
  · exact acceptsNext_mono hok (Nat.le_add_right _ _)
  · obtain ⟨d, hd, hanswers⟩ := exec_answerAt hexec
    exact fun k hk => (hanswers k).trans (hok (k + d) (by omega))

/-! ## Runs of steps -/

theorem steps_succ_next {n : Nat} (h : steps (n + 1) s = .next t) : ∃ u, step s = .next u ∧ steps n u = .next t := by
  obtain ⟨u, hstep⟩ := everyStepCompletes s
  exact ⟨u, hstep, by rwa [steps_succ hstep] at h⟩

theorem steps_appends {n : Nat} (h : steps n s = .next t) : s.OUT <+: t.OUT := by
  induction n generalizing s with
  | zero => cases h; exact List.prefix_refl _
  | succ n ih =>
    obtain ⟨u, hstep, hrest⟩ := steps_succ_next h
    obtain ⟨-, bytes, hout, -⟩ := stepsOnlyExtendTheOutput s u hstep
    exact (hout ▸ List.prefix_append s.OUT bytes).trans (ih hrest)

/-- Without a reset, a faulted block takes words and does nothing else (R119). -/
theorem step_of_fault (hfree : ∀ x ∈ s.inputs, x ≠ .rst) (hflt : s.FLT ≠ 0) (h : step s = .next t) :
    t.FLT = s.FLT ∧ t.OUT = s.OUT := by
  obtain ⟨-, rfl⟩ | ⟨rest, hinputs, -⟩ | ⟨w, rest, hinputs, -⟩ := step_next h
  · exact ⟨rfl, rfl⟩
  · exact absurd rfl (hfree .rst (by simp [hinputs]))
  · rw [faultedStepOnlyTakesTheWord s w rest hflt hinputs] at h
    cases h
    exact ⟨rfl, rfl⟩

theorem steps_of_fault {n : Nat} (hfree : ∀ x ∈ s.inputs, x ≠ .rst) (hflt : s.FLT ≠ 0) (h : steps n s = .next t) :
    t.FLT = s.FLT ∧ t.OUT = s.OUT := by
  induction n generalizing s with
  | zero => cases h; exact ⟨rfl, rfl⟩
  | succ n ih =>
    obtain ⟨u, hstep, hrest⟩ := steps_succ_next h
    obtain ⟨hfltKept, houtKept⟩ := step_of_fault hfree hflt hstep
    rw [← hfltKept, ← houtKept]
    exact ih (step_keeps_rst_free hfree hstep) (by rwa [hfltKept]) hrest

/-! ## Two sinks side by side -/

/-- The same block before another sink. -/
abbrev State.withSink (s : State) (answers : List SinkAnswer) (offered : Nat) : State :=
  { s with answers := answers, offered := offered }

/-- After the same inputs under a sink (`s`) and under one that accepts (`s'`): the block differs in the sink only, or the sink
has refused a byte and what it took before begins what the other took. -/
def State.Trails (s s' : State) : Prop :=
  (∃ answers offered, s' = s.withSink answers offered) ∨ (s.FLT = 2 ∧ s.OUT <+: s'.OUT)

section sinks

variable {answers : List SinkAnswer} {offered : Nat}

theorem pairNibble_trails {nib : Nibble} (hok : (s.withSink answers offered).acceptsNext 2) (h : pairNibble nib s = .next t) :
    ∃ t', pairNibble nib (s.withSink answers offered) = .next t' ∧ t.Trails t' := by
  have hbyte : (s.withSink answers offered).answerAt 0 = .ok := hok 0 (by decide)
  have hmark : ((s.withSink answers offered).countPair nib).answerAt 0 = .ok := by simpa using hok 1 (by decide)
  obtain ⟨-, rfl⟩ | ⟨-, hcnt, rfl⟩ | ⟨-, hcnt, -, rfl⟩ | ⟨-, hcnt, -, rfl⟩ := pairNibble_next h
  · obtain ⟨t', h'⟩ := pairNibble_completes nib (s.withSink answers offered)
    refine ⟨t', h', .inr ⟨rfl, ?_⟩⟩
    obtain hout | hout | ⟨-, hout⟩ := pairNibble_OUT h'
    all_goals simp [hout]
  · exact ⟨_, (pairNibble_of_ok hbyte nib).trans (if_neg hcnt), .inl ⟨_, _, rfl⟩⟩
  · exact ⟨_, (pairNibble_of_ok hbyte nib).trans ((if_pos hcnt).trans (emitOrFault_of_ok hmark)), .inl ⟨_, _, rfl⟩⟩
  · exact ⟨_, (pairNibble_of_ok hbyte nib).trans ((if_pos hcnt).trans (emitOrFault_of_ok hmark)),
      .inr ⟨rfl, List.prefix_append _ _⟩⟩

/-- A command makes the same checks before both sinks; where the first refuses a byte, the other takes it or more. -/
theorem exec_trails {i : Instr} (hok : (s.withSink answers offered).acceptsNext 2) (h : exec i s = .next t) :
    ∃ t', exec i (s.withSink answers offered) = .next t' ∧ t.Trails t' := by
  have hbyte : (s.withSink answers offered).answerAt 0 = .ok := hok 0 (by decide)
  cases i with
  | reserved data =>
    obtain ⟨hflt, rfl⟩ | ⟨hflt, rfl⟩ := exec_reserved_next h
    · exact ⟨_, exec_of_fault (by exact hflt) _, .inl ⟨_, _, rfl⟩⟩
    · exact ⟨_, exec_reserved_of_ok (by exact hflt) _, .inl ⟨_, _, rfl⟩⟩
  | start rate =>
    obtain ⟨hflt, rfl⟩ | ⟨hflt, hact, rfl⟩ | ⟨hflt, hact, hrate, rfl⟩ | ⟨hflt, hact, m, hrate, hemitted⟩ := exec_start_next h
    · exact ⟨_, exec_of_fault (by exact hflt) _, .inl ⟨_, _, rfl⟩⟩
    · exact ⟨_, exec_start_of_act (by exact hflt) (by exact hact) _, .inl ⟨_, _, rfl⟩⟩
    · exact ⟨_, exec_start_of_resolve_none (by exact hflt) (by exact hact) hrate, .inl ⟨_, _, rfl⟩⟩
    · refine ⟨_, (exec_start_of_resolve_some (by exact hflt) (by exact hact) hrate).trans (emitOrFault_of_ok hbyte), ?_⟩
      obtain ⟨-, rfl⟩ | ⟨-, rfl⟩ := hemitted
      · exact .inr ⟨rfl, List.prefix_append _ _⟩
      · exact .inl ⟨_, _, rfl⟩
  | sample value =>
    obtain ⟨hflt, rfl⟩ | ⟨hflt, hact, rfl⟩ | ⟨hflt, hact, hodd, rfl⟩ | ⟨hflt, hact, hodd, hpair⟩ := exec_sample_next h
    · exact ⟨_, exec_of_fault (by exact hflt) _, .inl ⟨_, _, rfl⟩⟩
    · exact ⟨_, exec_sample_of_not_act (by exact hflt) (by exact hact) _, .inl ⟨_, _, rfl⟩⟩
    · exact ⟨_, (exec_sample_of_not_odd (by exact hflt) (by exact hact) (by exact hodd) _).trans (holdNibble_eq _ _),
        .inl ⟨_, _, rfl⟩⟩
    · rw [exec_sample_of_odd (by exact hflt) (by exact hact) (by exact hodd)]
      exact pairNibble_trails (s := s.setAS _) hok hpair
  | endStream data =>
    obtain ⟨hflt, rfl⟩ | ⟨hflt, hact, rfl⟩ | ⟨hflt, hact, hodd, rfl⟩ | ⟨hflt, hact, hodd, hemitted⟩ := exec_endStream_next h
    · exact ⟨_, exec_of_fault (by exact hflt) _, .inl ⟨_, _, rfl⟩⟩
    · exact ⟨_, exec_endStream_of_not_act (by exact hflt) (by exact hact) _, .inl ⟨_, _, rfl⟩⟩
    · exact ⟨_, exec_endStream_of_not_odd (by exact hflt) (by exact hact) (by exact hodd) _, .inl ⟨_, _, rfl⟩⟩
    · refine ⟨_, (exec_endStream_of_odd (by exact hflt) (by exact hact) (by exact hodd) _).trans
        (emitOrFault_of_ok hbyte), ?_⟩
      obtain ⟨-, rfl⟩ | ⟨-, rfl⟩ := hemitted
      · exact .inr ⟨rfl, List.prefix_append _ _⟩
      · exact .inl ⟨_, _, rfl⟩

theorem step_trails (hfree : ∀ x ∈ s.inputs, x ≠ .rst) (hok : (s.withSink answers offered).acceptsNext 2)
    (h : step s = .next t) : ∃ t', step (s.withSink answers offered) = .next t' ∧ t.Trails t' := by
  obtain ⟨hinputs, rfl⟩ | ⟨rest, hinputs, -⟩ | ⟨w, rest, hinputs, hexec⟩ := step_next h
  · exact ⟨_, blockWithoutInputHolds _ (by exact hinputs), .inl ⟨_, _, rfl⟩⟩
  · exact absurd rfl (hfree .rst (by simp [hinputs]))
  · rw [stepExecutesDecodedCommand (s.withSink answers offered) w rest hinputs]
    exact exec_trails (s := { s with inputs := rest }) hok hexec

end sinks

/-- Settles O47: as long as the sink has refused nothing the two runs differ in the sink only; from the first refusal on the one
output stands still and the other only grows. -/
theorem outputIsAPrefixUnderAnySink : Obligations.OutputIsAPrefixUnderAnySink := by
  intro n
  induction n with
  | zero =>
    intro s t t' answers offered _ _ h h'
    cases h
    cases h'
    exact ⟨List.prefix_refl _, .inr rfl⟩
  | succ n ih =>
    intro s t t' answers offered hfree hok h h'
    obtain ⟨u, hstep, hrest⟩ := steps_succ_next h
    obtain ⟨u', hstep', htrails⟩ := step_trails hfree (acceptsNext_mono hok (by omega)) hstep
    rw [steps_succ hstep'] at h'
    have hfree' := step_keeps_rst_free hfree hstep
    obtain ⟨answers', offered', rfl⟩ | ⟨hrefused, hprefix⟩ := htrails
    · exact ih u t t' answers' offered' hfree' (step_acceptsNext hok hstep') hrest h'
    · obtain ⟨hflt, hout⟩ := steps_of_fault hfree' (by rw [hrefused]; decide) hrest
      exact ⟨hout ▸ hprefix.trans (steps_appends h'), .inl (hflt.trans hrefused)⟩

end Sys2Proof.Machine
end
